-- ==== Sys2Proof/Word.lean ====
section
/-!
DEFINITION. The words of the KT48's two lines: a byte, and the 32-bit serial a field device carries (00 Terms).
Quantities are natural numbers with stated ranges (00 Conventions), so they are `Nat` in the model.
-/
namespace Sys2Proof

/-- One byte of a host frame or of a field frame (R172, R167). -/
abbrev Byte := BitVec 8

/-- The 32-bit number each field device carries from manufacture (00 Terms, Serial). -/
abbrev Serial := BitVec 32

end Sys2Proof
end

