-- ==== Sys2Proof/Syntax.lean ====
section
/-!
DEFINITION. The commands: one constructor for each row of spec/opcode_table.json.
A host request is a complete frame with its CRC matching; it carries the frame's TAG and its payload bytes, so that
the length test and the field tests (R175, R184) are part of its meaning. LINK_ERROR carries bytes of HRX as they arrive,
since the table has no row for a single byte: the receiver finds in them the frames that R173 discards or hands on
(log 9). The three RESET rows are three scopes of one request kind, 0x1F (log 10). A timer's expiry names the record
whose timer it is.
-/
namespace Sys2Proof

/-- The level of an input pin (00 Pins). -/
inductive PinLevel where
  | low
  | high
  deriving DecidableEq, Repr

/-- A byte as it arrives on HRX: its value, and whether its stop bit is high; a low one is a framing error (R172, R173). -/
structure HrxByte where
  value : Byte
  stopHigh : Bool
  deriving DecidableEq, Repr

/-- How an announce slot ended (R131, R155). -/
inductive AnnounceResult where
  /-- No start condition within 30 ms. -/
  | empty
  /-- An ANNOUNCE frame with a valid check, carrying this serial. -/
  | serial (n : Serial)
  /-- A frame that failed its check. -/
  | failed
  deriving DecidableEq, Repr

/-- The commands of the block. -/
inductive Instr where
  | powerOnReset
  | ident (tag : Byte) (payload : List Byte)
  | status (tag : Byte) (payload : List Byte)
  | setTime (tag : Byte) (payload : List Byte)
  | weather (tag : Byte) (payload : List Byte)
  | holdConfig (tag : Byte) (payload : List Byte)
  | holdSet (tag : Byte) (payload : List Byte)
  | holdClear (tag : Byte) (payload : List Byte)
  | supplySet (tag : Byte) (payload : List Byte)
  | supplyGet (tag : Byte) (payload : List Byte)
  | tripClear (tag : Byte) (payload : List Byte)
  | zoneSet (tag : Byte) (payload : List Byte)
  | zoneGet (tag : Byte) (payload : List Byte)
  | zoneMap (tag : Byte) (payload : List Byte)
  | faultClear (tag : Byte) (payload : List Byte)
  | runNow (tag : Byte) (payload : List Byte)
  | cancelRun (tag : Byte) (payload : List Byte)
  | cancelAll (tag : Byte) (payload : List Byte)
  | gridWindow (tag : Byte) (payload : List Byte)
  | gridWrite (tag : Byte) (payload : List Byte)
  | gridRead (tag : Byte) (payload : List Byte)
  | gridSwap (tag : Byte) (payload : List Byte)
  | deviceList (tag : Byte) (payload : List Byte)
  | deviceGet (tag : Byte) (payload : List Byte)
  | enrol (tag : Byte) (payload : List Byte)
  | retire (tag : Byte) (payload : List Byte)
  | sweep (tag : Byte) (payload : List Byte)
  | probeRead (tag : Byte) (payload : List Byte)
  | deviceQuery (tag : Byte) (payload : List Byte)
  | lineSet (tag : Byte) (payload : List Byte)
  | noticeFilter (tag : Byte) (payload : List Byte)
  | resetPlan (tag : Byte) (payload : List Byte)
  | resetField (tag : Byte) (payload : List Byte)
  | resetAll (tag : Byte) (payload : List Byte)
  | unknownKind (kind : Byte) (tag : Byte) (payload : List Byte)
  | overrun
  | linkError (bytes : List HrxByte)
  | hostByteGapTimeout
  | linkBreak
  | linkBreakEnd
  | hostFrameSent
  | slotBoundary
  | settleExpiry (zone : Nat)
  | runExpiry (zone : Nat)
  | cycleTimerExpiry (zone : Nat)
  | closeLimitExpiry (zone : Nat)
  | soakExpiry (zone : Nat)
  | leadExpiry
  | lagExpiry
  | flowPulse
  | flowWindowEnd
  | rainInChange (level : PinLevel)
  | debounceExpiry
  | releaseExpiry
  | weatherStale
  | manualHoldExpiry
  | pollDue (serial : Serial)
  | stalenessExpiry (serial : Serial) (channel : Nat)
  | announceWindowDue
  | announceSlotEnd (result : AnnounceResult)
  | sweepEnd
  | fieldReplyReceived (address : BitVec 6) (tag : Byte) (status : Byte) (payload : List Byte)
  | holdExpiry (entry : Nat)
  | turnTimeout
  | replyTooLong
  | fieldBadFrame
  | arbitrationLost
  | fieldFrameSent
  | spacingExpiry
  | guardExpiry
  | foreignFrameStart
  | foreignFrameStop (frame : List Byte)
  | foreignFrameCutoff
  | overcurrent
  | riseDone
  | sweepDone
  | wakeDone
  | coolDownDone
  | restart
  | replyStartCondition
  deriving DecidableEq, Repr

end Sys2Proof
end

