-- ==== Sys2Proof/Decode.lean ====
section
/-!
DEFINITION. The words of the opcode table. No row of spec/opcode_table.json gives bits (every row's fields are empty),
so no word spells a command (log 39). The bytes of the host requests and of the field frames are read by their own
operations in Machine/Operands.lean.
-/
namespace Sys2Proof

/-- The command a word spells by the table's bits: none, since the table gives no row any bits. -/
def decodeTableWord (_nbits _w : Nat) : Option Instr := none

end Sys2Proof
end

