-- ==== Sys2Proof/Config.lean ====
section
/-!
DEFINITION. The values the manual does not state. Each is an opaque constant: nothing can be proved about its value,
so whatever is proved holds for every value. Each names the row of notes/assumptions that declares it.
-/
namespace Sys2Proof

/-- FREE VALUE (log 4): what uptime reads after a second that begins with uptime at 4294967295.
R100's range ends there and no rule says what follows. Applied to `State.freeCount`. -/
opaque Config.uptimeAfterTop : Nat → BitVec 32

/-- FREE VALUE (log 13): the byte at an index past the end of a payload that is shorter than its layout
(section 11.9). No rule says what a field reply or a foreign command of the wrong length means. -/
opaque Config.missingByte : List Byte → Nat → Byte

/-- FREE VALUE (log 14): the code of a number too large for a one-byte field (R184 codes none). -/
opaque Config.wideByte : Nat → Byte

/-- FREE VALUE (log 14): the code of a number too large for a two-byte field (R184 codes none). -/
opaque Config.wideHalf : Nat → BitVec 16

end Sys2Proof
end

