-- ==== Sys2Proof/Machine/State.lean ====
section
/-!
DEFINITION. The state of the KT48: one record for each of its blocks (00 Block overview), the time base, the pins that
hold a level, the queue of commands, and State.reset. Plain data throughout.
The constructors of each enumeration stand in the order of its field's table, which is the order R184 codes it in.
-/
namespace Sys2Proof.Machine

/-! ## Outcomes -/

/-- Reasons to stop with a fault: none. The manual gives the part no behaviour that stops it (INVENTORY, Faults). -/
inductive Fault
  deriving DecidableEq, Repr

/-- Reasons to refuse a command. -/
inductive Refusal where
  /-- Raised by `exec`'s arm of a command that has no meaning yet; no arm uses it. Safe: the model stops. -/
  | notModelled (mnemonic : String)
  deriving DecidableEq, Repr

/-! ## Zones (R1 to R24) -/

/-- `serial:output` or `serial:channel` (00 Device references). -/
structure Ref where
  serial : Serial
  num : Nat
  deriving DecidableEq, Repr

/-- R2. -/
inductive ZoneState where
  | unmapped | monitor | due | active | soaking | settling | faulted
  deriving DecidableEq, Repr

/-- R1. -/
inductive ZoneMode where
  | sensed | timed
  deriving DecidableEq, Repr

/-- R19. -/
inductive FaultReason where
  | coilOpen | coilShort | noResponse | stuck | highFlow | noFlow | deviceLost
  deriving DecidableEq, Repr

/-- The twelve configuration fields of section 1.1. -/
structure ZoneConfig where
  enabled : Bool
  low : Nat
  high : Nat
  secPerPoint : Nat
  maxRunS : Nat
  cycleMaxS : Nat
  soakS : Nat
  settleMin : Nat
  nominalFlow : Nat
  maxRunsPerDay : Nat
  timedIntervalDays : Nat
  timedS : Nat
  deriving DecidableEq, Repr

/-- A zone record (section 1.1). -/
structure Zone where
  cfg : ZoneConfig
  outputs : List Ref
  channels : List Ref
  state : ZoneState
  mode : ZoneMode
  estimate : Option Nat
  runsToday : Nat
  daysSinceRun : Nat
  faultReason : Option FaultReason
  capped : Bool
  unreachable : Bool
  settleEnd : Option Nat
  deriving DecidableEq, Repr

/-! ## Runs (R25 to R49) -/

inductive RunOrigin where
  | auto | timed | manual
  deriving DecidableEq, Repr

inductive RunState where
  | waiting | opening | opened | closing | soaking | suspended
  deriving DecidableEq, Repr

inductive RunOutcome where
  | complete | cancelled | expired | fault | frozen | tripped
  deriving DecidableEq, Repr

/-- Where a closing run goes (R60). -/
inductive Dest where
  | waiting | soaking | suspended | cancelled | complete | fault (reason : FaultReason) | tripped | frozen
  deriving DecidableEq, Repr

/-- A run record (section 2.1); `soakEnd` is the run's soak timer (R61), `suspHold` and `suspLine` the set
suspend_reasons. Its class is computed from the origin (R25). -/
structure Run where
  zone : Nat
  origin : RunOrigin
  seq : Nat
  totalS : Nat
  remainingS : Nat
  split : Bool
  cycleS : Option Nat
  cyclesDone : Nat
  opened : Bool
  state : RunState
  suspHold : Bool
  suspLine : Bool
  closePending : Bool
  destination : Option Dest
  skipCount : Nat
  blocking : Bool
  respectWindows : Bool
  enqueuedAt : Nat
  outcome : Option RunOutcome
  faultReason : Option FaultReason
  soakEnd : Option Nat
  deriving DecidableEq, Repr

/-- The Run Queue in queue order and the flow budget. -/
structure Arbiter where
  runs : List Run
  nextSeq : Nat
  flowSum : Nat
  openCount : Nat
  openOrder : List Nat
  deriving DecidableEq, Repr

/-! ## Valve Sequencer (R50 to R67) -/

inductive OutStatus where
  | notSent | openSent | opened | unknown | closeSent | closed
  deriving DecidableEq, Repr

/-- One output of an actuation record. -/
structure OutEntry where
  ref : Ref
  status : OutStatus
  deriving DecidableEq, Repr

/-- An actuation record (section 3.1). -/
structure ActRecord where
  zone : Nat
  outputs : List OutEntry
  openHanded : Bool
  inFlight : Option (Nat × Bool)
  cycleStart : Option Nat
  cycleEnd : Option Nat
  closeLimitAt : Option Nat
  noRetry : Bool
  deriving DecidableEq, Repr

structure Sequencer where
  records : List ActRecord
  spacingEnd : Option Nat
  deriving DecidableEq, Repr

/-! ## Supply Controller (R68 to R83) -/

inductive SupplyState where
  | idle | lead | on | lag | tripped
  deriving DecidableEq, Repr

inductive TripCause where
  | stuck | highFlowMain | leak
  deriving DecidableEq, Repr

/-- The supply record (section 4.1); `windowEnd` is the uptime at which the flow window in progress ends (R76). -/
structure Supply where
  cap : Nat
  maxOpen : Nat
  leadS : Nat
  lagS : Nat
  pulsesPer10L : Nat
  tolerancePct : Nat
  leakThreshold : Nat
  state : SupplyState
  tripCause : Option TripCause
  timerEnd : Option Nat
  windowPulses : Nat
  windowDiscard : Bool
  windowEnd : Nat
  lastFlow : Option Nat
  lastKept : Bool
  highCount : Nat
  lowCount : Nat
  leakCount : Nat
  lowAlarmed : Bool
  deriving DecidableEq, Repr

/-! ## Hold Unit (R84 to R99) -/

/-- A weather report and its validity (section 5.1). -/
structure Weather where
  rainMmX10 : Nat
  rainProbPct : Nat
  tempC : Int
  windKmh : Nat
  etFactorPct : Nat
  validMin : Nat
  validUntil : Nat
  deriving DecidableEq, Repr

/-- The six thresholds (section 5.2). -/
structure HoldConfig where
  rainThreshold : Nat
  probThreshold : Nat
  windThreshold : Nat
  freezeOn : Int
  freezeOff : Int
  releaseMin : Nat
  deriving DecidableEq, Repr

/-- The RAIN sources (section 5.3). -/
structure RainSources where
  contact : Bool
  observed : Bool
  forecast : Bool
  deriving DecidableEq, Repr

structure HoldUnit where
  weather : Option Weather
  cfg : HoldConfig
  rainActive : Bool
  sources : RainSources
  releaseEnd : Option Nat
  contactClosed : Bool
  debounceEnd : Option Nat
  wind : Bool
  freeze : Bool
  manual : Bool
  manualEnd : Option Nat
  deriving DecidableEq, Repr

/-- The holds by name (R97). -/
inductive HoldName where
  | rain | wind | freeze | manual
  deriving DecidableEq, Repr

/-! ## Plan Clock and Window Grid (R100 to R113) -/

structure Clock where
  uptime : Nat
  valid : Bool
  day : Nat
  minute : Nat
  second : Nat
  slot : Nat
  deriving DecidableEq, Repr

inductive GridOrder where
  | acrossSlots | acrossZones
  deriving DecidableEq, Repr

/-- A bank of 48 × 48 cells: the strictly ascending list of the addresses of its BLOCKED cells.
An unlisted cell is OPEN, the reset contents (R104). -/
abbrev Bank := List Nat

structure Grid where
  active : Bank
  staging : Bank
  zoneStart : Nat
  zoneEnd : Nat
  slotStart : Nat
  slotEnd : Nat
  order : GridOrder
  curZone : Nat
  curSlot : Nat
  swapArmed : Bool
  deriving DecidableEq, Repr

/-! ## Sensor Poller (R114 to R128) -/

inductive Quality where
  | none | good | outOfRange | sensorFault | calBad
  deriving DecidableEq, Repr

/-- A channel record (section 7.1). -/
structure Channel where
  serial : Serial
  channel : Nat
  dry : Nat
  wet : Nat
  lastRaw : Option Nat
  lastWetness : Option Nat
  readingAt : Option Nat
  quality : Quality
  fresh : Bool
  staleAt : Option Nat
  deriving DecidableEq, Repr

inductive PollState where
  | waiting | deferred | inFlight
  deriving DecidableEq, Repr

/-- A poll record (section 7.4); `entry` is the table entry (index, generation) that an IN_FLIGHT poll holds. -/
structure PollRec where
  serial : Serial
  state : PollState
  nextPoll : Option Nat
  dueSince : Option Nat
  entry : Option (Nat × Bool)
  deriving DecidableEq, Repr

structure Poller where
  channels : List (Option Channel)
  polls : List PollRec
  deriving DecidableEq, Repr

/-! ## Device Manager (R129 to R144) -/

inductive DeviceKind where
  | decoder | probe | unknown
  deriving DecidableEq, Repr

inductive DeviceState where
  | unplaced | placing | identifying | ready
  deriving DecidableEq, Repr

/-- A device record (section 8.2). -/
structure Device where
  serial : Serial
  kind : DeviceKind
  model : Option Nat
  count : Option Nat
  shortAddr : Option Nat
  state : DeviceState
  enrolled : Bool
  duplicate : Bool
  kindMismatch : Bool
  missCount : Nat
  pollInterval : Nat
  createdSeq : Nat
  deriving DecidableEq, Repr

structure DeviceManager where
  table : List (Option Device)
  created : Nat
  floor : Serial
  nextWindow : Option Nat
  sweepEnd : Option Nat
  overflowReported : Bool
  releasing : List Nat
  lastWindowAt : Option Nat
  deriving DecidableEq, Repr

/-! ## Field Scheduler (R145 to R158) -/

inductive EntryState where
  | free | queued | sent | holding
  deriving DecidableEq, Repr

inductive Origin where
  | poll | valve | discovery | link
  deriving DecidableEq, Repr

/-- The ops of a COMMAND frame, in the order of their codes 0x01..0x09 (section 11.9). -/
inductive FieldOp where
  | invite | assign | identify | readCal | measure | collect | opn | close | allClose
  deriving DecidableEq, Repr

/-- What a block asks the Scheduler for (R146). `subject` is the serial of the device spoken to (0 for an INVITE or an
ALL_CLOSE), `zone` the zone whose actuation record asks (0 for none), `releaseAddr` the address a release ASSIGN gives
up (R130). -/
structure Request where
  origin : Origin
  slot : Option Nat
  address : Nat
  replyAddr : Option Nat
  op : FieldOp
  payload : List Byte
  subject : Serial
  zone : Nat
  releaseAddr : Option Nat
  deriving DecidableEq, Repr

/-- A Field Transaction Table entry (section 9.1). `asked` is the op the transaction was asked for, which a COLLECT
answers (R152); `silent` marks a DEVICE_QUERY that records nothing (R134, R139). -/
structure Entry where
  state : EntryState
  gen : Bool
  origin : Origin
  slot : Option Nat
  detached : Bool
  address : Nat
  replyAddr : Option Nat
  op : FieldOp
  payload : List Byte
  sentOnce : Bool
  attempts : Nat
  badChecks : Nat
  arbLosses : Nat
  noRetry : Bool
  queuedAt : Nat
  holdUntil : Option Nat
  holdTotal : Nat
  asked : FieldOp
  subject : Serial
  zone : Nat
  releaseAddr : Option Nat
  silent : Bool
  deriving DecidableEq, Repr

/-- A request of the wait list and the time it joined (R147). -/
structure WaitReq where
  req : Request
  joinedAt : Nat
  deriving DecidableEq, Repr

structure Scheduler where
  entries : List Entry
  waits : List WaitReq
  strays : Nat
  deriving DecidableEq, Repr

/-- The device fault statuses, in the order of their codes 0x02..0x05 (R151). -/
inductive DevStatus where
  | refused | coilOpen | coilShort | sensorFault
  deriving DecidableEq, Repr

/-- How a transaction ends (R151, R153, R154, R156, R158). -/
inductive Completion where
  | ok (payload : List Byte)
  | fault (status : DevStatus)
  | timeout (badChecks : Nat)
  | contention
  | aborted
  | withdrawn
  deriving DecidableEq, Repr

/-! ## Field Line Interface (R159 to R171) -/

inductive LineState where
  | off | rising | sweeping | on | quiet | waking | fault
  deriving DecidableEq, Repr

/-- The causes a LINE_EVENT carries (R159). -/
inductive LineCause where
  | lineSet | riseDone | sweepDone | coolDownDone | overcurrent | overcurrentLatched | resetField | restart
  deriving DecidableEq, Repr

/-- How far our turn has come (R149): our frame is being sent; we wait for its reply; the announce slot runs. -/
inductive TurnPhase where
  | sending | awaiting | announceSlot
  deriving DecidableEq, Repr

/-- Our turn in progress (R149): `waitEnd` is the end of the 30 ms wait or of the announce slot, `replyLimit` the 20 ms
limit of a frame that has begun. -/
structure Turn where
  entry : Nat
  startedAt : Nat
  phase : TurnPhase
  waitEnd : Option Nat
  replyLimit : Option Nat
  deriving DecidableEq, Repr

/-- The line record (section 10.1). `foreignLimit` is the 20 ms limit of a frame on the cable that is not ours: while no
turn of ours runs it stands with foreign_busy, and in a turn it remembers the frame until the turn ends (log 28). -/
structure Line where
  state : LineState
  stateEnd : Option Nat
  quietAllowed : Bool
  latched : Bool
  overcurrents : List Nat
  foreignBusy : Bool
  foreignLimit : Option Nat
  guardEnd : Option Nat
  reservation : Option Nat
  turn : Option Turn
  deriving DecidableEq, Repr

/-! ## Link Controller (R172 to R184) -/

inductive ReadyCause where
  | power | command | link
  deriving DecidableEq, Repr

inductive DeviceEvent where
  | placed | lost | partialProbe | duplicate | kindMismatch | overflow
  deriving DecidableEq, Repr

inductive HoldEvent where
  | start | releasing | resumed | ended
  deriving DecidableEq, Repr

inductive SupplyEvent where
  | trip | tripRepeat | cleared
  deriving DecidableEq, Repr

/-- The notices (section 11.9). A field that an event does not carry is `none`. -/
inductive Notice where
  | ready (cause : ReadyCause)
  | zoneState (zone : Nat) (state : ZoneState) (fault : Option FaultReason) (estimate : Option Nat)
      (capped unreachable : Bool)
  | runDone (zone : Nat) (origin : RunOrigin) (outcome : RunOutcome) (delivered : Nat)
  | zoneFault (zone : Nat) (reason : FaultReason)
  | deviceEvent (event : DeviceEvent) (serial : Serial) (kind : Option DeviceKind) (count : Option Nat)
      (shortAddr : Option Nat) (enrolled : Option Bool) (records : Option Nat)
  | holdEvent (hold : HoldName) (event : HoldEvent) (sources : Option RainSources) (minutes : Option Nat)
  | weatherStale (freezeActive : Bool)
  | slot (slot day : Nat) (swapped : Bool)
  | day (day count : Nat)
  | supplyEvent (event : SupplyEvent) (cause : Option TripCause) (left : Option SupplyState)
  | flowAlarm (measured expected nOpen : Nat)
  | lineEvent (new left : LineState) (cause : LineCause)
  | foreignActuation (op : FieldOp) (zone : Option Nat) (output : Option Ref) (shortAddr : Option Nat)
  | noticeOverflow (count : Nat)
  deriving DecidableEq, Repr

/-- A message of the part: KIND, TAG and payload (R172). `resets` marks the reply of RESET ALL, whose last byte performs
the power-on reset (R183). -/
structure HostFrame where
  kind : Byte
  tag : Byte
  payload : List Byte
  resets : Bool
  deriving DecidableEq, Repr

/-- The receiver (R173): it hunts for SYNC, or is in a frame, with the bytes taken since SYNC and the time of the last
byte, SYNC's among them. -/
inductive Receiver where
  | hunting
  | inFrame (taken : List Byte) (lastAt : Nat)
  deriving DecidableEq, Repr

inductive SlotState where
  | free | waiting | complete
  deriving DecidableEq, Repr

inductive ForwardKind where
  | probeRead | deviceQuery
  deriving DecidableEq, Repr

/-- What an IDENTIFY answer reports (section 11.9). -/
structure Identity where
  kind : DeviceKind
  model : Nat
  count : Nat
  deriving DecidableEq, Repr

/-- A Pending Slot (section 11.4); `channel` is the channel a PROBE_READ asks for, `found` the identity a DEVICE_QUERY
has read when its READ_CAL goes out (R144). -/
structure Slot where
  state : SlotState
  kind : ForwardKind
  tag : Byte
  reply : Option (List Byte)
  channel : Nat
  found : Option Identity
  deriving DecidableEq, Repr

structure Link where
  receiver : Receiver
  inBreak : Bool
  replies : List HostFrame
  slots : List Slot
  completeOrder : List Nat
  notices : List Notice
  discards : Nat
  linkErrors : Nat
  overruns : Nat
  filter : BitVec 32
  resetAllPending : Bool
  tx : Option HostFrame
  deriving DecidableEq, Repr

/-! ## The whole part -/

/-- The model's own marks inside one command (log 30): an admission opportunity whose scan has not been made (R34), an
event of R164 whose quiet test has not been made. Both are false between commands. -/
structure Todo where
  scan : Bool
  quiet : Bool
  deriving DecidableEq, Repr

/-- The KT48. -/
structure State where
  pending : List Instr
  timeBase : Nat
  clock : Clock
  grid : Grid
  zones : List Zone
  arb : Arbiter
  seqr : Sequencer
  supply : Supply
  hold : HoldUnit
  poller : Poller
  devs : DeviceManager
  sched : Scheduler
  line : Line
  link : Link
  rainIn : PinLevel
  todo : Todo
  freeCount : Nat
  deriving DecidableEq, Repr

/-! ## Reset values -/

/-- Section 1.1, "After power-on reset". -/
def ZoneConfig.reset : ZoneConfig :=
  { enabled := false, low := 300, high := 600, secPerPoint := 6, maxRunS := 1800, cycleMaxS := 0, soakS := 900,
    settleMin := 60, nominalFlow := 60, maxRunsPerDay := 2, timedIntervalDays := 0, timedS := 600 }

/-- R1, R22. -/
def Zone.reset : Zone :=
  { cfg := ZoneConfig.reset, outputs := [], channels := [], state := .unmapped, mode := .timed, estimate := none,
    runsToday := 0, daysSinceRun := 0, faultReason := none, capped := false, unreachable := false, settleEnd := none }

/-- R47. -/
def Arbiter.reset : Arbiter := { runs := [], nextSeq := 0, flowSum := 0, openCount := 0, openOrder := [] }

/-- R50, R51. -/
def Sequencer.reset : Sequencer := { records := [], spacingEnd := none }

/-- R68. -/
def Supply.reset : Supply :=
  { cap := 200, maxOpen := 1, leadS := 5, lagS := 30, pulsesPer10L := 0, tolerancePct := 30, leakThreshold := 20,
    state := .idle, tripCause := none, timerEnd := none, windowPulses := 0, windowDiscard := false, windowEnd := 10,
    lastFlow := none, lastKept := false, highCount := 0, lowCount := 0, leakCount := 0, lowAlarmed := false }

/-- R98. -/
def HoldUnit.reset : HoldUnit :=
  { weather := none,
    cfg := { rainThreshold := 20, probThreshold := 70, windThreshold := 40, freezeOn := 2, freezeOff := 4,
             releaseMin := 240 },
    rainActive := false, sources := { contact := false, observed := false, forecast := false }, releaseEnd := none,
    contactClosed := false, debounceEnd := none, wind := false, freeze := false, manual := false, manualEnd := none }

/-- R100. -/
def Clock.reset : Clock := { uptime := 0, valid := false, day := 0, minute := 0, second := 0, slot := 0 }

/-- R104. -/
def Grid.reset : Grid :=
  { active := [], staging := [], zoneStart := 1, zoneEnd := 48, slotStart := 0, slotEnd := 47, order := .acrossSlots,
    curZone := 1, curSlot := 0, swapArmed := false }

/-- R127. -/
def Poller.reset : Poller := { channels := List.replicate 32 none, polls := [] }

/-- R129. -/
def DeviceManager.reset : DeviceManager :=
  { table := List.replicate 40 none, created := 0, floor := 0#32, nextWindow := none, sweepEnd := none,
    overflowReported := false, releasing := [], lastWindowAt := none }

/-- A FREE entry keeps its generation; its other fields are meaningless (R145) and hold these values. -/
def Entry.blank (gen : Bool) : Entry :=
  { state := .free, gen := gen, origin := .poll, slot := none, detached := false, address := 0, replyAddr := none,
    op := .invite, payload := [], sentOnce := false, attempts := 0, badChecks := 0, arbLosses := 0, noRetry := false,
    queuedAt := 0, holdUntil := none, holdTotal := 0, asked := .invite, subject := 0#32, zone := 0,
    releaseAddr := none, silent := false }

/-- R145. -/
def Scheduler.reset : Scheduler := { entries := List.replicate 16 (Entry.blank false), waits := [], strays := 0 }

/-- R159. -/
def Line.reset : Line :=
  { state := .off, stateEnd := none, quietAllowed := false, latched := false, overcurrents := [], foreignBusy := false,
    foreignLimit := none, guardEnd := none, reservation := none, turn := none }

/-- A FREE Pending Slot; its other fields are meaningless (R176). -/
def Slot.blank : Slot :=
  { state := .free, kind := .probeRead, tag := 0#8, reply := none, channel := 0, found := none }

/-- R183: the Link Controller after a power-on reset with cause POWER. Its READY notice has been taken by the idle
transmitter (R179, log 8). -/
def Link.reset : Link :=
  { receiver := .hunting, inBreak := false, replies := [], slots := List.replicate 8 Slot.blank, completeOrder := [],
    notices := [], discards := 0, linkErrors := 0, overruns := 0, filter := 0xFFFFFFFF#32, resetAllPending := false,
    tx := some { kind := 0x40#8, tag := 0#8, payload := [0#8], resets := false } }

/-- The machine right after a power-on reset (R183 and each chapter's reset rule). RAIN_IN is high, the contact open
(log 21). -/
def State.reset : State :=
  { pending := [], timeBase := 0, clock := Clock.reset, grid := Grid.reset, zones := List.replicate 48 Zone.reset,
    arb := Arbiter.reset, seqr := Sequencer.reset, supply := Supply.reset, hold := HoldUnit.reset,
    poller := Poller.reset, devs := DeviceManager.reset, sched := Scheduler.reset, line := Line.reset,
    link := Link.reset, rainIn := .high, todo := { scan := false, quiet := false }, freeCount := 0 }

end Sys2Proof.Machine
end

