-- ==== Sys2Proof/Machine/Operands.lean ====
section
/-!
DEFINITION. How the bytes of a payload are read (R184, section 11.9): numbers, named values and references of the host
requests, and the results of the field replies. A host payload is read only after its length has been tested (R175).
-/
namespace Sys2Proof.Machine

/-! ## Host payloads -/

/-- The byte at an index as a number. -/
def byteAt (p : List Byte) (i : Nat) : Nat := (p.getD i 0#8).toNat

/-- The two-byte number at an index, high byte first. -/
def u16At (p : List Byte) (i : Nat) : Nat := byteAt p i * 256 + byteAt p (i + 1)

/-- The signed byte at an index, in two's complement. -/
def s8At (p : List Byte) (i : Nat) : Int := (p.getD i 0#8).toInt

/-- The four-byte serial or mask at an index. -/
def u32At (p : List Byte) (i : Nat) : BitVec 32 :=
  BitVec.ofNat 32 (u16At p i * 65536 + u16At p (i + 2))

/-- A yes/no byte; any other value matches no value of its field. -/
def flagAt (p : List Byte) (i : Nat) : Option Bool :=
  match byteAt p i with
  | 0 => some false
  | 1 => some true
  | _ => none

/-- `n` references of five bytes each, from an index. -/
def refsAt (p : List Byte) (i n : Nat) : List Ref :=
  (List.range n).map fun k => { serial := u32At p (i + 5 * k), num := byteAt p (i + 5 * k + 4) }

/-- The zone configuration block of 19 bytes, from an index (R184). -/
def zoneConfigAt (p : List Byte) (i : Nat) : Option ZoneConfig :=
  (flagAt p i).map fun enabled =>
    { enabled := enabled, low := u16At p (i + 1), high := u16At p (i + 3), secPerPoint := byteAt p (i + 5),
      maxRunS := u16At p (i + 6), cycleMaxS := u16At p (i + 8), soakS := u16At p (i + 10),
      settleMin := byteAt p (i + 12), nominalFlow := u16At p (i + 13), maxRunsPerDay := byteAt p (i + 15),
      timedIntervalDays := byteAt p (i + 16), timedS := u16At p (i + 17) }

/-- Every configuration field is within the range of section 1.1 (R5, test 1). -/
def ZoneConfig.inRange (c : ZoneConfig) : Bool :=
  c.low ≤ 999 && 1 ≤ c.high && c.high ≤ 1000 && 1 ≤ c.secPerPoint && c.secPerPoint ≤ 60 && 60 ≤ c.maxRunS &&
  c.maxRunS ≤ 7200 && (c.cycleMaxS = 0 || (60 ≤ c.cycleMaxS && c.cycleMaxS ≤ 3600)) && 60 ≤ c.soakS &&
  c.soakS ≤ 7200 && c.settleMin ≤ 240 && 1 ≤ c.nominalFlow && c.nominalFlow ≤ 2000 && 1 ≤ c.maxRunsPerDay &&
  c.maxRunsPerDay ≤ 8 && c.timedIntervalDays ≤ 14 && 60 ≤ c.timedS && c.timedS ≤ 7200

/-- The length test of ZONE_MAP (R175): the count bytes are held and the length is 3 + 5 × (n + m). -/
def zoneMapLengthOk (p : List Byte) : Bool :=
  2 ≤ p.length && 3 + 5 * byteAt p 1 ≤ p.length &&
    p.length = 3 + 5 * (byteAt p 1 + byteAt p (2 + 5 * byteAt p 1))

/-- The outputs list of a ZONE_MAP. -/
def zoneMapOutputs (p : List Byte) : List Ref := refsAt p 2 (byteAt p 1)

/-- The channels list of a ZONE_MAP. -/
def zoneMapChannels (p : List Byte) : List Ref :=
  refsAt p (3 + 5 * byteAt p 1) (byteAt p (2 + 5 * byteAt p 1))

/-- The seven supply settings of a SUPPLY_SET put into a supply record. -/
def supplySettings (p : List Byte) (u : Supply) : Supply :=
  { u with cap := u16At p 0, maxOpen := byteAt p 2, leadS := byteAt p 3, lagS := u16At p 4,
           pulsesPer10L := u16At p 6, tolerancePct := byteAt p 8, leakThreshold := byteAt p 9 }

/-- Every supply setting is within the range of section 4.1 (R81, test 1). -/
def Supply.inRange (u : Supply) : Bool :=
  10 ≤ u.cap && u.cap ≤ 2000 && 1 ≤ u.maxOpen && u.maxOpen ≤ 4 && u.leadS ≤ 60 && u.lagS ≤ 600 &&
  u.pulsesPer10L ≤ 1000 && 10 ≤ u.tolerancePct && u.tolerancePct ≤ 100 && 1 ≤ u.leakThreshold && u.leakThreshold ≤ 200

/-- The six fields of a WEATHER report received at an uptime (R84). -/
def weatherAt (p : List Byte) (uptime : Nat) : Weather :=
  { rainMmX10 := u16At p 0, rainProbPct := byteAt p 2, tempC := s8At p 3, windKmh := byteAt p 4,
    etFactorPct := byteAt p 5, validMin := u16At p 6, validUntil := uptime + u16At p 6 * 60 }

/-- Every report field is within the range of section 5.1 (R84). -/
def Weather.inRange (w : Weather) : Bool :=
  w.rainMmX10 ≤ 2000 && w.rainProbPct ≤ 100 && (-40 : Int) ≤ w.tempC && w.tempC ≤ 60 && w.windKmh ≤ 200 &&
  w.etFactorPct ≤ 250 && 10 ≤ w.validMin && w.validMin ≤ 1440

/-- The six thresholds of a HOLD_CONFIG (R87). -/
def holdConfigAt (p : List Byte) : HoldConfig :=
  { rainThreshold := u16At p 0, probThreshold := byteAt p 2, windThreshold := byteAt p 3, freezeOn := s8At p 4,
    freezeOff := s8At p 5, releaseMin := u16At p 6 }

/-- Every threshold is within the range of section 5.2 (R87). -/
def HoldConfig.inRange (c : HoldConfig) : Bool :=
  1 ≤ c.rainThreshold && c.rainThreshold ≤ 500 && 1 ≤ c.probThreshold && c.probThreshold ≤ 100 &&
  5 ≤ c.windThreshold && c.windThreshold ≤ 150 && (-10 : Int) ≤ c.freezeOn && c.freezeOn ≤ 10 &&
  c.freezeOn < c.freezeOff && c.freezeOff ≤ 15 && c.releaseMin ≤ 1440

/-! ## Field payloads

A frame may hold fewer or more bytes than its layout of section 11.9. A byte it is too short to hold is free (log 13).
DESIGN CHOICE (log 62): bytes beyond the layout are ignored. -/

/-- The byte at an index of a field payload; a byte the payload is too short to hold is free (log 13). -/
def fieldByte (p : List Byte) (i : Nat) : Nat :=
  match p[i]? with
  | some b => b.toNat
  | none => (Config.missingByte p i).toNat

/-- The two-byte number at an index of a field payload. -/
def fieldHalf (p : List Byte) (i : Nat) : Nat := fieldByte p i * 256 + fieldByte p (i + 1)

/-- The serial that an ANNOUNCE carries (section 11.9). -/
def fieldSerial (p : List Byte) : Serial := BitVec.ofNat 32 (fieldHalf p 0 * 65536 + fieldHalf p 2)

/-- The identity of an IDENTIFY answer; `kind` is UNKNOWN for a kind byte other than 0x01 and 0x02 (section 11.9). Bytes
after the third are ignored (log 62). -/
def identityOf (p : List Byte) : Identity :=
  { kind := match fieldByte p 0 with
            | 1 => .decoder
            | 2 => .probe
            | _ => .unknown,
    model := fieldByte p 1, count := fieldByte p 2 }

/-- A valid identity: DECODER with 1..4 outputs or PROBE with 1..3 channels (R136). -/
def Identity.valid (d : Identity) : Bool :=
  match d.kind with
  | .decoder => 1 ≤ d.count && d.count ≤ 4
  | .probe => 1 ≤ d.count && d.count ≤ 3
  | .unknown => false

/-- The dry and wet points of channel `ch` in a READ_CAL answer (R115). DESIGN CHOICE (log 62): bytes beyond those of
channels 1..count are ignored. -/
def pointsOf (p : List Byte) (ch : Nat) : Nat × Nat := (fieldHalf p (4 * (ch - 1)), fieldHalf p (4 * (ch - 1) + 2))

/-- The raw count of channel `ch` in a MEASURE answer: bits 11–0. DESIGN CHOICE (log 58): bits 14–12, which section 11.9
has zero, are ignored. DESIGN CHOICE (log 62): so are bytes beyond those of channels 1..count (R123). -/
def rawOf (p : List Byte) (ch : Nat) : Nat := fieldHalf p (2 * (ch - 1)) % 4096

/-- The fault flag of channel `ch` in a MEASURE answer: bit 15. -/
def faultOf (p : List Byte) (ch : Nat) : Bool := 32768 ≤ fieldHalf p (2 * (ch - 1))

/-- The wait of a HOLD reply: below 50 taken as 50, above 3000 as 3000 (R152); bytes after the second are ignored (log 62). -/
def holdWaitOf (p : List Byte) : Nat := max 50 (min 3000 (fieldHalf p 0))

/-- A device status from its code; a value the part does not know is completed as REFUSED (R151). -/
def devStatusOf (code : Nat) : DevStatus :=
  match code with
  | 3 => .coilOpen
  | 4 => .coilShort
  | 5 => .sensorFault
  | _ => .refused

/-- The op of a foreign COMMAND that R171 reports, if it is one. -/
def foreignOpOf (code : Nat) : Option FieldOp :=
  match code with
  | 7 => some .opn
  | 8 => some .close
  | 9 => some .allClose
  | _ => none

end Sys2Proof.Machine
end

