-- ==== Sys2Proof/Machine/Coding.lean ====
section
/-!
DEFINITION. How values are written as bytes (R184, section 11.9), the two check codes (R172, R167), and the frames the
part puts on its two lines. Reading bytes is Machine/Operands.lean's work.
-/
namespace Sys2Proof.Machine

/-! ## Numbers -/

/-- A number in one byte. A number that does not fit has a free code (log 14). -/
def u8 (n : Nat) : Byte := if n < 256 then BitVec.ofNat 8 n else Config.wideByte n

/-- A number in two bytes, high byte first. A number that does not fit has a free code (log 14). -/
def u16 (n : Nat) : List Byte :=
  let h : BitVec 16 := if n < 65536 then BitVec.ofNat 16 n else Config.wideHalf n
  [h.extractLsb' 8 8, h.extractLsb' 0 8]

/-- A 32-bit number in four bytes, high byte first. -/
def u32 (w : BitVec 32) : List Byte :=
  [w.extractLsb' 24 8, w.extractLsb' 16 8, w.extractLsb' 8 8, w.extractLsb' 0 8]

/-- A yes/no field or a flag. -/
def flagByte (b : Bool) : Byte := if b then 1#8 else 0#8

/-- An optional one-byte number: absent is all ones. -/
def opt8 : Option Nat → Byte
  | some n => u8 n
  | none => 0xFF#8

/-- An optional two-byte number: absent is all ones. -/
def opt16 : Option Nat → List Byte
  | some n => u16 n
  | none => [0xFF#8, 0xFF#8]

/-- A reference: the serial, then one byte of output or channel number. -/
def refBytes (r : Ref) : List Byte := u32 r.serial ++ [u8 r.num]

/-! ## Named values: the position in the list of the field's table, from 0 -/

def ZoneState.code : ZoneState → Nat
  | .unmapped => 0 | .monitor => 1 | .due => 2 | .active => 3 | .soaking => 4 | .settling => 5 | .faulted => 6

def ZoneMode.code : ZoneMode → Nat
  | .sensed => 0 | .timed => 1

def FaultReason.code : FaultReason → Nat
  | .coilOpen => 0 | .coilShort => 1 | .noResponse => 2 | .stuck => 3 | .highFlow => 4 | .noFlow => 5 | .deviceLost => 6

def RunOrigin.code : RunOrigin → Nat
  | .auto => 0 | .timed => 1 | .manual => 2

def RunState.code : RunState → Nat
  | .waiting => 0 | .opening => 1 | .opened => 2 | .closing => 3 | .soaking => 4 | .suspended => 5

def RunOutcome.code : RunOutcome → Nat
  | .complete => 0 | .cancelled => 1 | .expired => 2 | .fault => 3 | .frozen => 4 | .tripped => 5

def SupplyState.code : SupplyState → Nat
  | .idle => 0 | .lead => 1 | .on => 2 | .lag => 3 | .tripped => 4

def TripCause.code : TripCause → Nat
  | .stuck => 0 | .highFlowMain => 1 | .leak => 2

def DeviceKind.code : DeviceKind → Nat
  | .decoder => 0 | .probe => 1 | .unknown => 2

def DeviceState.code : DeviceState → Nat
  | .unplaced => 0 | .placing => 1 | .identifying => 2 | .ready => 3

def Quality.code : Quality → Nat
  | .none => 0 | .good => 1 | .outOfRange => 2 | .sensorFault => 3 | .calBad => 4

def LineState.code : LineState → Nat
  | .off => 0 | .rising => 1 | .sweeping => 2 | .on => 3 | .quiet => 4 | .waking => 5 | .fault => 6

def LineCause.code : LineCause → Nat
  | .lineSet => 0 | .riseDone => 1 | .sweepDone => 2 | .coolDownDone => 3 | .overcurrent => 4
  | .overcurrentLatched => 5 | .resetField => 6 | .restart => 7

def HoldName.code : HoldName → Nat
  | .rain => 0 | .wind => 1 | .freeze => 2 | .manual => 3

def HoldEvent.code : HoldEvent → Nat
  | .start => 0 | .releasing => 1 | .resumed => 2 | .ended => 3

def SupplyEvent.code : SupplyEvent → Nat
  | .trip => 0 | .tripRepeat => 1 | .cleared => 2

def DeviceEvent.code : DeviceEvent → Nat
  | .placed => 0 | .lost => 1 | .partialProbe => 2 | .duplicate => 3 | .kindMismatch => 4 | .overflow => 5

def ReadyCause.code : ReadyCause → Nat
  | .power => 0 | .command => 1 | .link => 2

/-- The op codes of the field frame table. -/
def FieldOp.code : FieldOp → Nat
  | .invite => 1 | .assign => 2 | .identify => 3 | .readCal => 4 | .measure => 5 | .collect => 6 | .opn => 7
  | .close => 8 | .allClose => 9

/-- The status codes of the field frame table. -/
def DevStatus.code : DevStatus → Nat
  | .refused => 2 | .coilOpen => 3 | .coilShort => 4 | .sensorFault => 5

/-- The RAIN sources of a HOLD_EVENT: bit 0 CONTACT, bit 1 OBSERVED, bit 2 FORECAST. -/
def RainSources.code (r : RainSources) : Nat :=
  (if r.contact then 1 else 0) + (if r.observed then 2 else 0) + (if r.forecast then 4 else 0)

/-- The status byte of a reply (section 11.9). -/
inductive ReplyStatus where
  | ok | unknownKind | badLength | badField | conflict | busy | tagInUse | notEnrolled | noDevice | lineDown | timeout
  | contention | deviceError | aborted
  deriving DecidableEq, Repr

def ReplyStatus.code : ReplyStatus → Byte
  | .ok => 0x00#8 | .unknownKind => 0x01#8 | .badLength => 0x02#8 | .badField => 0x03#8 | .conflict => 0x04#8
  | .busy => 0x05#8 | .tagInUse => 0x06#8 | .notEnrolled => 0x07#8 | .noDevice => 0x08#8 | .lineDown => 0x09#8
  | .timeout => 0x0A#8 | .contention => 0x0B#8 | .deviceError => 0x0C#8 | .aborted => 0x0D#8

/-! ## Notices -/

/-- KIND of a notice, less 0x40: the number of its pass bit in the filter (R182). -/
def Notice.index : Notice → Nat
  | .ready .. => 0 | .zoneState .. => 1 | .runDone .. => 2 | .zoneFault .. => 3 | .deviceEvent .. => 4
  | .holdEvent .. => 5 | .weatherStale .. => 6 | .slot .. => 7 | .day .. => 8 | .supplyEvent .. => 9
  | .flowAlarm .. => 10 | .lineEvent .. => 11 | .foreignActuation .. => 12 | .noticeOverflow .. => 13

/-- The two flags of a zone in one byte: bit 0 capped, bit 1 unreachable. -/
def zoneFlags (capped unreachable : Bool) : Byte := u8 ((if capped then 1 else 0) + (if unreachable then 2 else 0))

/-- The notice payloads of section 11.9. A field the event does not carry is sent absent. -/
def Notice.payload : Notice → List Byte
  | .ready cause => [u8 cause.code]
  | .zoneState zone state fault estimate capped unreachable =>
    [u8 zone, u8 state.code, opt8 (fault.map (·.code))] ++ opt16 estimate ++ [zoneFlags capped unreachable]
  | .runDone zone origin outcome delivered => [u8 zone, u8 origin.code, u8 outcome.code] ++ u16 delivered
  | .zoneFault zone reason => [u8 zone, u8 reason.code]
  | .deviceEvent event serial kind count shortAddr enrolled records =>
    [u8 event.code] ++ u32 serial ++
      [opt8 (kind.map (·.code)), opt8 count, opt8 shortAddr, opt8 (enrolled.map (fun b => if b then 1 else 0)),
        opt8 records]
  | .holdEvent hold event sources minutes =>
    [u8 hold.code, u8 event.code, opt8 (sources.map (·.code))] ++ opt16 minutes
  | .weatherStale freezeActive => [flagByte freezeActive]
  | .slot number today swapped => [u8 number] ++ u16 today ++ [flagByte swapped]
  | .day today count => u16 today ++ u16 count
  | .supplyEvent event cause left => [u8 event.code, opt8 (cause.map (·.code)), opt8 (left.map (·.code))]
  | .flowAlarm measured expected nOpen => [u8 0] ++ u16 measured ++ u16 expected ++ [u8 nOpen]
  | .lineEvent new left cause => [u8 new.code, u8 left.code, u8 cause.code]
  | .foreignActuation op zone output shortAddr =>
    [u8 op.code, opt8 zone] ++
      (match output with
        | some r => refBytes r
        | none => [0xFF#8, 0xFF#8, 0xFF#8, 0xFF#8, 0xFF#8]) ++ [opt8 shortAddr]
  | .noticeOverflow count => [u8 count]

/-- A notice as a message: KIND 0x40 and up, TAG 0 (R172). -/
def Notice.frame (n : Notice) : HostFrame :=
  { kind := u8 (0x40 + n.index), tag := 0#8, payload := n.payload, resets := false }

/-! ## Host frames (R172) -/

/-- One bit of the CRC-16: polynomial 0x1021, most-significant bit first. -/
def crc16Bit (crc : BitVec 16) : BitVec 16 := if crc.msb then (crc <<< 1) ^^^ 0x1021#16 else crc <<< 1

/-- One byte of the CRC-16. -/
def crc16Byte (crc : BitVec 16) (b : Byte) : BitVec 16 :=
  (List.range 8).foldl (fun c _ => crc16Bit c) (crc ^^^ (b.zeroExtend 16 <<< 8))

/-- The CRC-16 of a host frame: initial value 0xFFFF, over LEN to the last payload byte. -/
def crc16 (bytes : List Byte) : BitVec 16 := bytes.foldl crc16Byte 0xFFFF#16

/-- The CRC of a list of bytes as it is sent, high byte first. -/
def crcBytes (bytes : List Byte) : List Byte := [(crc16 bytes).extractLsb' 8 8, (crc16 bytes).extractLsb' 0 8]

/-- The bytes of a host frame: SYNC, LEN, KIND, TAG, payload, CRC-16 high byte first. -/
def HostFrame.bytes (f : HostFrame) : List Byte :=
  let body := u8 f.payload.length :: f.kind :: f.tag :: f.payload
  0xC3#8 :: body ++ crcBytes body

/-- The bytes of the frame on HTX, if one is being sent (R179). -/
def State.htx (s : State) : Option (List Byte) := s.link.tx.map HostFrame.bytes

/-! ## Field frames (R167, R168) -/

/-- One bit of the CRC-8: polynomial 0x07. -/
def crc8Bit (crc : Byte) : Byte := if crc.msb then (crc <<< 1) ^^^ 0x07#8 else crc <<< 1

/-- One byte of the CRC-8. -/
def crc8Byte (crc : Byte) (b : Byte) : Byte := (List.range 8).foldl (fun c _ => crc8Bit c) (crc ^^^ b)

/-- The CRC-8 of a field frame: initial value 0, over the address byte to the last payload byte. -/
def crc8 (bytes : List Byte) : Byte := bytes.foldl crc8Byte 0#8

/-- The tag byte of an entry: bits 7–5 zero, bit 4 generation, bits 3–0 index. -/
def tagByte (index : Nat) (gen : Bool) : Byte := BitVec.ofNat 8 (index + if gen then 16 else 0)

/-- The type of a field frame (R167). -/
inductive FrameType where
  | reply | command | announce
  deriving DecidableEq, Repr

/-- The two bits of a frame type (section 11.9). -/
def FrameType.code : FrameType → BitVec 2
  | .reply => 0b01#2
  | .command => 0b10#2
  | .announce => 0b11#2

/-- The type that two bits name; 00 names none (section 11.9). -/
def frameTypeOf (code : BitVec 2) : Option FrameType :=
  match code.toNat with
  | 1 => some .reply
  | 2 => some .command
  | 3 => some .announce
  | _ => none

/-- A field frame (R167); `code` is the op of a COMMAND or an ANNOUNCE and the status of a REPLY. -/
structure FieldFrame where
  type : FrameType
  address : BitVec 6
  tag : Byte
  code : Byte
  payload : List Byte
  deriving DecidableEq, Repr

/-- The bytes that the CRC-8 covers: the address byte with the type in bits 7–6, tag, op or status, length, payload. -/
def FieldFrame.body (f : FieldFrame) : List Byte :=
  (f.type.code ++ f.address) :: f.tag :: f.code :: BitVec.ofNat 8 f.payload.length :: f.payload

/-- The bytes of a field frame between its start and its stop condition. -/
def FieldFrame.bytes (f : FieldFrame) : List Byte := f.body ++ [crc8 f.body]

/-- The frame that the bytes before a stop condition spell, if they pass the check: the type is one of the three, the
length is at most 12, the bytes number exactly as the length requires, and the CRC matches (R168). -/
def fieldFrameOf : List Byte → Option FieldFrame
  | head :: tag :: code :: len :: rest =>
    match frameTypeOf (head.extractLsb' 6 2) with
    | some type =>
      let f : FieldFrame :=
        { type := type, address := head.extractLsb' 0 6, tag := tag, code := code, payload := rest.take len.toNat }
      if len.toNat ≤ 12 && rest.length = len.toNat + 1 && rest.drop len.toNat = [crc8 f.body] then some f else none
    | none => none
  | _ => none

/-- A frame given by its fields passes the check if its payload is at most 12 bytes long (R168). -/
def FieldFrame.checked (f : FieldFrame) : Option FieldFrame :=
  if f.payload.length ≤ 12 then some f else none

/-- The COMMAND frame of an entry. -/
def commandFrame (index : Nat) (e : Entry) : List Byte :=
  FieldFrame.bytes { type := .command, address := BitVec.ofNat 6 e.address, tag := tagByte index e.gen,
                     code := u8 e.op.code, payload := e.payload }

/-- The frame the part is driving on FL_A and FL_B, if one is being sent. -/
def State.fieldFrame (s : State) : Option (List Byte) :=
  match s.line.turn with
  | some t => if t.phase = .sending then (s.sched.entries[t.entry]?).map (commandFrame t.entry) else none
  | none => none

end Sys2Proof.Machine
end

