-- ==== Sys2Proof/Machine/Flags.lean ====
section
/-!
DEFINITION. The lines, flags and tests that are computed from the state: RDY, MV_OUT, line power, the weather factor,
holds in force, and the classes and ranks by which runs and destinations are ordered.
-/
namespace Sys2Proof.Machine

/-- RDY (R174): fewer than four replies queued and no RESET ALL pending. -/
def Link.rdy (l : Link) : Bool := l.replies.length < 4 && !l.resetAllPending

/-- The level of RDY, high when asserted. -/
def State.rdy (s : State) : Bool := s.link.rdy

/-- MV_OUT: high exactly when the supply is in LEAD, ON or LAG (R69). -/
def State.mvOut (s : State) : Bool :=
  match s.supply.state with
  | .lead | .on | .lag => true
  | .idle | .tripped => false

/-- The powered line states (section 10.1). -/
def LineState.powered : LineState → Bool
  | .rising | .sweeping | .on | .quiet | .waking => true
  | .off | .fault => false

/-- The weather factor: et_factor_pct while a report is present, and 100 while none is (R85). -/
def HoldUnit.factor (h : HoldUnit) : Nat :=
  match h.weather with
  | some w => w.etFactorPct
  | none => 100

/-- Whether a pausing hold applies to a run of this origin (R42). -/
def HoldUnit.applies (h : HoldUnit) (o : RunOrigin) : Bool :=
  h.manual || (o != .manual && (h.rainActive || h.wind))

/-- The holds active, coded as byte 6 of STATUS (section 11.9). -/
def HoldUnit.activeCode (h : HoldUnit) : Nat :=
  (if h.rainActive then 1 else 0) + (if h.wind then 2 else 0) + (if h.freeze then 4 else 0) + (if h.manual then 8 else 0)

/-- No source asserted. -/
def RainSources.isEmpty (r : RainSources) : Bool := !r.contact && !r.observed && !r.forecast

/-- The class of a run: 0 for MANUAL, 1 for AUTO and TIMED (R25). -/
def RunOrigin.cls : RunOrigin → Nat
  | .manual => 0
  | .auto | .timed => 1

/-- Queue order: class, then seq (R27). -/
def Run.before (a b : Run) : Bool :=
  a.origin.cls < b.origin.cls || (a.origin.cls = b.origin.cls && a.seq < b.seq)

/-- An admitted run is in OPENING, OPEN or CLOSING (00 Terms). -/
def Run.admitted (r : Run) : Bool :=
  match r.state with
  | .opening | .opened | .closing => true
  | .waiting | .soaking | .suspended => false

/-- The zone state that goes with a run's state (section 2.2). -/
def Run.zoneState (r : Run) : ZoneState :=
  match r.state with
  | .waiting | .suspended => if r.opened then .soaking else .due
  | .opening | .closing => if r.opened then .active else .due
  | .opened => .active
  | .soaking => .soaking

/-- The rank of a destination, 1 the most severe (R60). -/
def Dest.rank : Dest → Nat
  | .frozen => 1 | .tripped => 2 | .fault _ => 3 | .complete => 4 | .cancelled => 5 | .suspended => 6 | .soaking => 7
  | .waiting => 8

/-- A destination offered to a run: kept if it ranks above the one held, dropped otherwise (R60). -/
def Dest.offer (held : Option Dest) (d : Dest) : Option Dest :=
  match held with
  | none => some d
  | some h => if d.rank < h.rank then some d else some h

/-- The outcome a destination leaves with, and its fault reason, if it is an outcome (R60). -/
def Dest.outcome : Dest → Option (RunOutcome × Option FaultReason)
  | .frozen => some (.frozen, none)
  | .tripped => some (.tripped, none)
  | .fault reason => some (.fault, some reason)
  | .complete => some (.complete, none)
  | .cancelled => some (.cancelled, none)
  | .suspended | .soaking | .waiting => none

/-- The closes are done: no output is OPENED, UNKNOWN, OPEN_SENT or CLOSE_SENT (R58). -/
def ActRecord.closesDone (r : ActRecord) : Bool :=
  r.outputs.all fun o => o.status = .notSent || o.status = .closed

/-- The actuations (R148). -/
def FieldOp.isActuation : FieldOp → Bool
  | .opn | .close | .allClose => true
  | .invite | .assign | .identify | .readCal | .measure | .collect => false

/-- The six classes of R148. -/
def Entry.frameClass (e : Entry) : Nat :=
  match e.op with
  | .allClose | .close => 1
  | .opn => 2
  | .collect => 3
  | .invite | .assign | .identify | .readCal | .measure =>
    match e.origin with
    | .link => 4
    | .discovery => 5
    | .poll | .valve => 6

/-- An entry that is SENT or HOLDING keeps its reply_address busy (R148, R152). -/
def Entry.running (e : Entry) : Bool := e.state = .sent || e.state = .holding

/-- The address of a cell in a bank: zone 1..48, slot 0..47 (R104). -/
def cellAddr (zone slot : Nat) : Nat := (zone - 1) * 48 + slot

/-- A cell is OPEN when its address is not listed (R104). -/
def Bank.isOpen (b : Bank) (zone slot : Nat) : Bool := !b.contains (cellAddr zone slot)

/-- The canonical form of a bank: addresses strictly rising, each a cell of the grid. -/
def Bank.wf (b : Bank) : Bool := (b.zip (b.drop 1)).all (fun p => p.1 < p.2) && b.all (· < 2304)

/-- A calibration is valid when dry and wet both lie in 1..4094 and wet is greater than dry (section 7.1). -/
def calValid (dry wet : Nat) : Bool := 1 ≤ dry && dry ≤ 4094 && 1 ≤ wet && wet ≤ 4094 && dry < wet

/-- The judgement of a raw count (R118): the quality, and the wetness of a GOOD reading. -/
def judgeReading (dry wet raw : Nat) (faulty : Bool) : Quality × Option Nat :=
  if !calValid dry wet then (.calBad, none)
  else if raw = 0 || raw = 4095 || faulty then (.sensorFault, none)
  else if raw + 200 < dry || wet + 200 < raw then (.outOfRange, none)
  else if raw ≤ dry then (.good, some 0)
  else if wet ≤ raw then (.good, some 1000)
  else (.good, some ((raw - dry) * 1000 / (wet - dry)))

end Sys2Proof.Machine
end

