-- ==== Sys2Proof/Machine/Receiver.lean ====
section
/-!
DEFINITION. The host line's receiver as it stands in the link (R173): the hunt for SYNC, the judgement of the bytes of a
frame, and the counts of frames discarded. What a byte does to the part stands in HostFrames.lean.
-/
namespace Sys2Proof.Machine

/-- A frame discarded with a link error (R173). -/
def Link.countError (l : Link) : Link := { l with receiver := .hunting, linkErrors := min 65535 (l.linkErrors + 1) }

/-- A complete frame discarded because RDY is deasserted (R174). -/
def Link.countOverrun (l : Link) : Link := { l with receiver := .hunting, overruns := min 65535 (l.overruns + 1) }

/-- What the bytes taken since SYNC amount to. -/
inductive Heard where
  /-- More bytes of the frame are to come. -/
  | growing
  /-- LEN is above 240, or the CRC of the complete frame does not match. -/
  | bad
  /-- The frame is complete with its CRC matching. -/
  | complete (kind tag : Byte) (payload : List Byte)
  deriving DecidableEq, Repr

/-- The judgement of the bytes taken since SYNC: LEN, KIND, TAG, LEN payload bytes and the two CRC bytes; a LEN above 240
is found as soon as it is taken, the CRC with the second CRC byte (R172, R173). -/
def heardAs : List Byte → Heard
  | [] => .growing
  | len :: rest =>
    if 240 < len.toNat then .bad
    else if rest.length < len.toNat + 4 then .growing
    else if rest.drop (len.toNat + 2) = crcBytes (len :: rest.take (len.toNat + 2)) then
      .complete (rest.getD 0 0#8) (rest.getD 1 0#8) ((rest.drop 2).take len.toNat)
    else .bad

/-- More than 50 ms have passed since the last byte of the frame in progress (R173). -/
def Link.gapPassed (now : Nat) (l : Link) : Bool :=
  match l.receiver with
  | .hunting => false
  | .inFrame _ lastAt => lastAt + 50 < now

/-- A frame whose gap has grown too long is discarded (R173). -/
def Link.closeGap (now : Nat) (l : Link) : Link := if l.gapPassed now then l.countError else l

/-- A byte arrives outside a frame: a SYNC opens one, and any other byte is skipped, a framing error too (R173). -/
def Link.hunt (now : Nat) (b : HrxByte) (l : Link) : Link :=
  if b.stopHigh && b.value = 0xC3#8 then { l with receiver := .inFrame [] now } else l

/-- The bytes of a frame, each with its stop bit high. -/
def HostFrame.onHrx (f : HostFrame) : List HrxByte := f.bytes.map fun b => { value := b, stopHigh := true }

end Sys2Proof.Machine
end

