-- ==== Sys2Proof/Machine/Ops.lean ====
section
/-!
DEFINITION. The named operations over State: one update for each block, the accessors and updates of the records, the
marks of an event under way, and the Link Controller's queues, through which every reply and every notice goes.
-/
namespace Sys2Proof.Machine

/-! ## Updates of one block -/

def State.mapClock (f : Clock → Clock) (s : State) : State := { s with clock := f s.clock }
def State.mapGrid (f : Grid → Grid) (s : State) : State := { s with grid := f s.grid }
def State.mapZones (f : List Zone → List Zone) (s : State) : State := { s with zones := f s.zones }
def State.mapArb (f : Arbiter → Arbiter) (s : State) : State := { s with arb := f s.arb }
def State.mapSeqr (f : Sequencer → Sequencer) (s : State) : State := { s with seqr := f s.seqr }
def State.mapSupply (f : Supply → Supply) (s : State) : State := { s with supply := f s.supply }
def State.mapHold (f : HoldUnit → HoldUnit) (s : State) : State := { s with hold := f s.hold }
def State.mapPoller (f : Poller → Poller) (s : State) : State := { s with poller := f s.poller }
def State.mapDevs (f : DeviceManager → DeviceManager) (s : State) : State := { s with devs := f s.devs }
def State.mapSched (f : Scheduler → Scheduler) (s : State) : State := { s with sched := f s.sched }
def State.mapLine (f : Line → Line) (s : State) : State := { s with line := f s.line }
def State.mapLink (f : Link → Link) (s : State) : State := { s with link := f s.link }
def State.mapTodo (f : Todo → Todo) (s : State) : State := { s with todo := f s.todo }
def State.setRainIn (level : PinLevel) (s : State) : State := { s with rainIn := level }
def State.setPending (p : List Instr) (s : State) : State := { s with pending := p }

/-- One operation for each element of a list, in order. -/
def State.forEach {α : Type} (l : List α) (f : α → State → State) (s : State) : State :=
  l.foldl (fun t a => f a t) s

/-- The uptime in seconds (R100). -/
def State.uptime (s : State) : Nat := s.clock.uptime

/-! ## Zone records -/

/-- The zone numbers in ascending order (R1). -/
def zoneNums : List Nat := List.range' 1 48

/-- The record of a zone number (R1). -/
def State.zone? (s : State) (z : Nat) : Option Zone := if z = 0 then none else s.zones[z - 1]?

/-- A change to one zone record. -/
def State.modZone (z : Nat) (f : Zone → Zone) (s : State) : State :=
  if z = 0 then s else s.mapZones fun l => l.modify (z - 1) f

/-! ## Run records and actuation records -/

/-- The run of a zone, if it has one (R25). -/
def State.run? (s : State) (z : Nat) : Option Run := s.arb.runs.find? (·.zone = z)

/-- A change to the run of a zone. -/
def State.modRun (z : Nat) (f : Run → Run) (s : State) : State :=
  s.mapArb fun a => { a with runs := a.runs.map fun r => if r.zone = z then f r else r }

/-- The zones that have a run, in queue order (R27). -/
def State.runZones (s : State) : List Nat := s.arb.runs.map (·.zone)

/-- The number of runs in a state. -/
def State.countRuns (s : State) (st : RunState) : Nat := s.arb.runs.countP (·.state = st)

/-- The actuation record of a zone's run (R50). -/
def State.record? (s : State) (z : Nat) : Option ActRecord := s.seqr.records.find? (·.zone = z)

/-- A change to the actuation record of a zone's run. -/
def State.modRecord (z : Nat) (f : ActRecord → ActRecord) (s : State) : State :=
  s.mapSeqr fun q => { q with records := q.records.map fun r => if r.zone = z then f r else r }

/-- A new status of one output of an actuation record. -/
def ActRecord.setOutput (ref : Ref) (status : OutStatus) (r : ActRecord) : ActRecord :=
  { r with outputs := r.outputs.map fun o => if o.ref = ref then { o with status := status } else o }

/-- Whether a run has had an OPEN handed out in this admission (R53). -/
def State.openHanded (s : State) (z : Nat) : Bool :=
  match s.record? z with
  | some r => r.openHanded
  | none => false

/-! ## Device, channel and poll records -/

/-- The device record of a serial. -/
def State.device? (s : State) (n : Serial) : Option Device :=
  s.devs.table.findSome? fun o => o.filter (·.serial = n)

/-- The device record that holds a short address. -/
def State.deviceAt? (s : State) (addr : Nat) : Option Device :=
  s.devs.table.findSome? fun o => o.filter (·.shortAddr = some addr)

/-- The device records present, in index order. -/
def State.devices (s : State) : List Device := s.devs.table.filterMap id

/-- A change to the device record of a serial. -/
def State.modDevice (n : Serial) (f : Device → Device) (s : State) : State :=
  s.mapDevs fun m => { m with table := m.table.map fun o => o.map fun d => if d.serial = n then f d else d }

/-- The short address a device holds. -/
def State.addrOf (s : State) (n : Serial) : Option Nat := (s.device? n).bind (·.shortAddr)

/-- The channel record of a probe's channel. -/
def State.channel? (s : State) (n : Serial) (ch : Nat) : Option Channel :=
  s.poller.channels.findSome? fun o => o.filter fun c => c.serial = n && c.channel = ch

/-- A change to the channel record of a probe's channel. -/
def State.modChannel (n : Serial) (ch : Nat) (f : Channel → Channel) (s : State) : State :=
  s.mapPoller fun p =>
    { p with channels := p.channels.map fun o =>
        o.map fun c => if c.serial = n && c.channel = ch then f c else c }

/-- The channel numbers of a probe that have a record, in channel order. -/
def State.heldChannels (s : State) (n : Serial) : List Nat :=
  [1, 2, 3].filter fun ch => (s.channel? n ch).isSome

/-- The poll record of a probe. -/
def State.poll? (s : State) (n : Serial) : Option PollRec := s.poller.polls.find? (·.serial = n)

/-- A change to the poll record of a probe. -/
def State.modPoll (n : Serial) (f : PollRec → PollRec) (s : State) : State :=
  s.mapPoller fun p => { p with polls := p.polls.map fun r => if r.serial = n then f r else r }

/-- The first free place of a table of optional records. -/
def freeIndex {α : Type} (table : List (Option α)) : Option Nat := table.findIdx? (·.isNone)

/-! ## Transaction entries -/

/-- The entry of an index. -/
def State.entry? (s : State) (i : Nat) : Option Entry := s.sched.entries[i]?

/-- A change to the entry of an index. -/
def State.modEntry (i : Nat) (f : Entry → Entry) (s : State) : State :=
  s.mapSched fun c => { c with entries := c.entries.modify i f }

/-! ## Marks of the event under way (log 30) -/

/-- An admission opportunity has come (R34); its scan follows in this command. -/
def State.wantScan (s : State) : State := s.mapTodo fun t => { t with scan := true }

/-- An event of R164 has come; the quiet test follows in this command. -/
def State.wantQuiet (s : State) : State := s.mapTodo fun t => { t with quiet := true }

/-- The flow window in progress is marked discarded (R77). -/
def State.discardWindow (s : State) : State := s.mapSupply fun u => { u with windowDiscard := true }

/-! ## Wake (R165) -/

/-- A wake asked for while the line is QUIET; it changes nothing in any other state. -/
def State.wakeLine (s : State) : State :=
  if s.line.state = .quiet then
    s.mapLine fun l => { l with state := .waking, stateEnd := some (s.timeBase + 300) }
  else s

/-! ## The transmitter and its queues (R174 to R179) -/

/-- KIND of the reply of a forwarded request. -/
def ForwardKind.replyKind : ForwardKind → Byte
  | .probeRead => 0x9B#8
  | .deviceQuery => 0x9C#8

/-- A COMPLETE slot's reply enters the reply queue and the slot becomes FREE (R177). -/
def Link.moveSlot (i : Nat) (l : Link) : Link :=
  match l.slots[i]? with
  | some { state := .complete, kind, tag, reply := some payload, .. } =>
    { l with
      replies := l.replies ++ [{ kind := kind.replyKind, tag := tag, payload := payload, resets := false }],
      slots := l.slots.set i Slot.blank }
  | _ => l

/-- COMPLETE slots take the free places of the reply queue, in the order they became COMPLETE (R177). -/
def Link.fillFrom : List Nat → Link → Link
  | [], l => { l with completeOrder := [] }
  | i :: rest, l =>
    if l.replies.length < 4 then Link.fillFrom rest (l.moveSlot i) else { l with completeOrder := i :: rest }

/-- R177, on the order the Link Controller holds. -/
def Link.fill (l : Link) : Link := Link.fillFrom l.completeOrder l

/-- The transmitter takes the notice at the head of the queue; a pending discard count takes the place (R178). -/
def Link.takeNotice (l : Link) : Link :=
  match l.notices with
  | [] => l
  | n :: rest =>
    if 0 < l.discards then
      { l with tx := some n.frame, notices := rest ++ [.noticeOverflow l.discards], discards := 0 }
    else { l with tx := some n.frame, notices := rest }

/-- An idle transmitter takes the next reply, or failing that the next notice (R179, log 8). -/
def Link.pump (l : Link) : Link :=
  match l.tx with
  | some _ => l
  | none =>
    match l.replies with
    | f :: rest => Link.fill { l with tx := some f, replies := rest }
    | [] => l.takeNotice

/-- The transmitter has finished a frame. The READY of a link break that has ended is the first frame after the one that was
in progress (R180), so it goes ahead of the replies queued since; else the next frame is R179's. It stands at the head,
since a break leaves the Notice Queue empty, but for the READY of a reset that the break has performed (R183). DESIGN CHOICE
(log 20): the two go in the order they were queued, both ahead of the replies. No other READY is ever found in the queue. -/
def Link.frameSent (l : Link) : Link :=
  match l.notices with
  | .ready _ :: _ => Link.takeNotice { l with tx := none }
  | _ => Link.pump { l with tx := none }

/-- A notice passes the filter; READY and NOTICE_OVERFLOW pass whatever their bits say (R182). -/
def Link.passes (l : Link) (n : Notice) : Bool :=
  n.index = 0 || n.index = 13 || l.filter.getLsbD n.index

/-- A notice is posted (R178); during a link break it is discarded and counted nowhere (R180). -/
def Link.post (n : Notice) (l : Link) : Link :=
  if l.inBreak then l
  else if !l.passes n then l
  else if l.notices.length < 32 then Link.pump { l with notices := l.notices ++ [n] }
  else { l with discards := min 255 (l.discards + 1) }

/-- A notice is posted to the Link Controller (R178). -/
def State.post (n : Notice) (s : State) : State := s.mapLink (Link.post n)

/-- A reply enters the reply queue (R174). -/
def Link.queueReply (f : HostFrame) (l : Link) : Link := Link.pump { l with replies := l.replies ++ [f] }

/-- A reply to a request of a kind: KIND plus 0x80, the request's TAG, the status and the result (R172, R175). -/
def State.reply (kind tag : Byte) (status : ReplyStatus) (result : List Byte) (s : State) : State :=
  s.mapLink (Link.queueReply { kind := kind + 0x80#8, tag := tag, payload := status.code :: result, resets := false })

/-- A request whose reply tells what its effect leaves: the reply is queued first, so that the notices of the effect
follow it (R175). -/
def State.replyThen (kind tag : Byte) (result : State → List Byte) (effect : State → State) (s : State) : State :=
  effect (s.reply kind tag .ok (result (effect s)))

/-- A whole frame has been taken with its CRC matching (R174, R175): an overrun while RDY is deasserted, BAD_LENGTH when
the payload length is not the kind's, and else handed to its owner. -/
def State.frameTaken (kind tag : Byte) (lengthOk : Bool) (owner : State → State) (s : State) : State :=
  if !s.rdy then s.mapLink Link.countOverrun
  else if !lengthOk then s.reply kind tag .badLength []
  else owner s

/-- The answer of a forwarded request: its slot becomes COMPLETE and its reply enters the reply queue when there is a
place (R177). A slot that is not WAITING has been released. -/
def Link.completeSlot (i : Nat) (payload : List Byte) (l : Link) : Link :=
  match l.slots[i]? with
  | some slot =>
    if slot.state = .waiting then
      Link.pump (Link.fill
        { l with slots := l.slots.set i { slot with state := .complete, reply := some payload },
                 completeOrder := l.completeOrder ++ [i] })
    else l
  | none => l

/-- The reply of a forwarded request is formed (R177). -/
def State.completeSlot (i : Nat) (status : ReplyStatus) (result : List Byte) (s : State) : State :=
  s.mapLink (Link.completeSlot i (status.code :: result))

/-- The Pending Slot of a number, if it is WAITING. -/
def State.waitingSlot? (s : State) (i : Nat) : Option Slot := s.link.slots[i]?.filter (·.state = .waiting)

end Sys2Proof.Machine
end

