-- ==== Sys2Proof/Machine/Scheduler.lean ====
section
/-!
DEFINITION. The Field Scheduler: taking and freeing entries, the wait list and its grants, and the choice of the next
frame (chapter 9). What a completion does to its origin is Machine/Completion.lean's work.
-/
namespace Sys2Proof.Machine

/-! ## Taking an entry (R146) -/

/-- The number of entries an origin may take: all sixteen for VALVE, entries 0..11 for the others (R146). -/
def Origin.limit : Origin → Nat
  | .valve => 16
  | .poll | .discovery | .link => 12

/-- The lowest-numbered FREE entry an origin may take (R146). -/
def Scheduler.freeFor (c : Scheduler) (o : Origin) : Option Nat :=
  (c.entries.take o.limit).findIdx? (·.state = .free)

/-- The entry a request becomes when it takes an entry at a moment: generation toggled, QUEUED, every count 0 (R146). -/
def Entry.taken (req : Request) (now : Nat) (e : Entry) : Entry :=
  { Entry.blank (!e.gen) with
    state := .queued, origin := req.origin, slot := req.slot, address := req.address, replyAddr := req.replyAddr,
    op := req.op, payload := req.payload, queuedAt := now, asked := req.op, subject := req.subject, zone := req.zone,
    releaseAddr := req.releaseAddr }

/-- The output an OPEN or CLOSE names. -/
def Request.output (req : Request) : Ref := { serial := req.subject, num := byteAt req.payload 0 }

/-- The asking block is told of the entry: the Sequencer records it in the actuation record (R52, R53), the Poller marks
the poll IN_FLIGHT (R122). -/
def State.handOver (i : Nat) (gen : Bool) (req : Request) (s : State) : State :=
  match req.origin, req.op with
  | .valve, .opn =>
    s.modRecord req.zone fun r =>
      { r.setOutput req.output .openSent with inFlight := some (i, gen), openHanded := true }
  | .valve, .close =>
    s.modRecord req.zone fun r => { r.setOutput req.output .closeSent with inFlight := some (i, gen) }
  | .poll, _ =>
    s.modPoll req.subject fun r =>
      { r with state := .inFlight, nextPoll := none, dueSince := none, entry := some (i, gen) }
  | _, _ => s

/-- A request takes the entry of an index; a QUIET line is asked to wake (R146, R165). -/
def State.takeEntry (i : Nat) (req : Request) (s : State) : State :=
  match s.entry? i with
  | some e => ((s.modEntry i (Entry.taken req s.timeBase)).wakeLine).handOver i (!e.gen) req
  | none => s

/-- A request that finds no entry joins the wait list; a poll becomes DEFERRED with due_since the time it fell due
(R122, R147). -/
def State.joinWaits (req : Request) (s : State) : State :=
  let t := s.mapSched fun c => { c with waits := c.waits ++ [{ req := req, joinedAt := s.timeBase }] }
  if req.origin = .poll then
    t.modPoll req.subject fun r =>
      { r with state := .deferred, nextPoll := none, dueSince := some (r.nextPoll.getD s.uptime) }
  else t

/-- A block asks for a transaction (R146). -/
def State.ask (req : Request) (s : State) : State :=
  match s.sched.freeFor req.origin with
  | some i => s.takeEntry i req
  | none => s.joinWaits req

/-! ## Freeing an entry (R147) -/

/-- The oldest waiting request of an origin. -/
def Scheduler.oldest (c : Scheduler) (o : Origin) : Option Nat := c.waits.findIdx? (·.req.origin = o)

/-- The waiting request that a freed entry is granted to: VALVE first; for an entry among 0..11 then LINK, DISCOVERY and
POLL (R147). -/
def Scheduler.grantee (c : Scheduler) (i : Nat) : Option Nat :=
  match c.oldest .valve with
  | some k => some k
  | none =>
    if i < 12 then
      match c.oldest .link with
      | some k => some k
      | none =>
        match c.oldest .discovery with
        | some k => some k
        | none => c.oldest .poll
    else none

/-- A FREE entry is granted to a waiting request (R147). -/
def State.grant (i : Nat) (s : State) : State :=
  match s.sched.grantee i with
  | some k =>
    match s.sched.waits[k]? with
    | some w => (s.mapSched fun c => { c with waits := c.waits.eraseIdx k }).takeEntry i w.req
    | none => s
  | none => s

/-- An entry becomes FREE, keeping its generation (R145), and is granted (R147). -/
def State.freeEntry (i : Nat) (s : State) : State :=
  ((s.modEntry i fun e => Entry.blank e.gen).wantQuiet).grant i

/-- Requests are taken off the wait list (R147). -/
def State.dropWaits (p : Request → Bool) (s : State) : State :=
  (s.mapSched fun c => { c with waits := c.waits.filter fun w => !p w.req }).wantQuiet

/-- An entry that is SENT or HOLDING is detached: it runs to its end and its completion is discarded (R156). -/
def Entry.detach (e : Entry) : Entry := { e with detached := true }

/-! ## The choice of the next frame (R148) -/

/-- The line state admits the entry's frame (R148). -/
def LineState.admits (st : LineState) (o : Origin) : Bool :=
  match st with
  | .on => true
  | .sweeping => o = .discovery
  | .off | .rising | .quiet | .waking | .fault => false

/-- Another transaction speaks to the device at this address (R148). -/
def Scheduler.busy (c : Scheduler) (addr : Nat) : Bool :=
  c.entries.any fun e => e.running && e.replyAddr = some addr

/-- A QUEUED entry that may be chosen: the line state admits it, its reply_address is not busy, and it is no actuation
while the spacing timer runs (R148). -/
def State.mayChoose (s : State) (e : Entry) : Bool :=
  e.state = .queued && s.line.state.admits e.origin &&
  (match e.replyAddr with
    | some addr => !s.sched.busy addr
    | none => true) &&
  !(e.op.isActuation && s.seqr.spacingEnd.isSome)

/-- One entry stands before another: the lower class, and within it the older queued_at (R148). -/
def Entry.ahead (a b : Entry) : Bool :=
  a.frameClass < b.frameClass || (a.frameClass = b.frameClass && a.queuedAt < b.queuedAt)

/-- The entries by index. -/
def Scheduler.indexed (c : Scheduler) : List (Entry × Nat) := c.entries.zipIdx

/-- The better of the entry chosen so far and the next one. -/
def State.pickFrame (s : State) (best : Option (Entry × Nat)) (next : Entry × Nat) : Option (Entry × Nat) :=
  if s.mayChoose next.1 then
    match best with
    | some b => if next.1.ahead b.1 then some next else some b
    | none => some next
  else best

/-- The entry whose frame the Scheduler chooses: the lowest class, the oldest queued_at, the lowest index (R148). -/
def State.choice (s : State) : Option Nat := (s.sched.indexed.foldl s.pickFrame none).map (·.2)

end Sys2Proof.Machine
end

