-- ==== Sys2Proof/Machine/RunOps.lean ====
section
/-!
DEFINITION. The Zone Unit, the Run Queue and Flow Arbiter, the Valve Sequencer and the Supply Controller where they act
on one another (chapters 1 to 4): opening, admission, enqueueing and the due decisions, closing and leaving, the causes
that stop a run, and the trip.
-/
namespace Sys2Proof.Machine

/-! ## The state of a zone (R2, R4) -/

/-- The ZONE_STATE notice of a zone record; fault_reason is present in FAULTED only (R4). -/
def Zone.notice (z : Nat) (r : Zone) : Notice :=
  .zoneState z r.state (if r.state = .faulted then r.faultReason else none) r.estimate r.capped r.unreachable

/-- A zone enters a state: the settle timer stops when it leaves SETTLING (R2, R3), and ZONE_STATE is posted if the
state changes (R4). -/
def State.setZoneState (z : Nat) (st : ZoneState) (s : State) : State :=
  match s.zone? z with
  | some r =>
    if r.state = st then s
    else
      let r' := { r with state := st, settleEnd := if st = .settling then r.settleEnd else none }
      (s.modZone z fun _ => r').post (r'.notice z)
  | none => s

/-- A zone becomes FAULTED with a reason: ZONE_STATE, then ZONE_FAULT (R19). -/
def State.faultZone (z : Nat) (reason : FaultReason) (s : State) : State :=
  ((s.modZone z fun r => { r with faultReason := some reason }).setZoneState z .faulted).post (.zoneFault z reason)

/-- The Arbiter reports a run's state to the Zone Unit, which keeps the zone's state in step (R28, section 2.2). -/
def State.reportRun (z : Nat) (s : State) : State :=
  match s.run? z with
  | some r => s.setZoneState z r.zoneState
  | none => s

/-! ## The supply's states (R69 to R72) -/

/-- A change of the supply state, which marks the window discarded (R77). -/
def State.setSupply (st : SupplyState) (timerEnd : Option Nat) (s : State) : State :=
  s.mapSupply fun u => { u with state := st, timerEnd := timerEnd, windowDiscard := true }

/-- The supply enters LAG, or with lag_s 0 goes to IDLE (R71, R72). -/
def State.supplyLag (s : State) : State :=
  if 0 < s.supply.lagS then s.setSupply .lag (some (s.uptime + s.supply.lagS)) else s.setSupply .idle none

/-- The last release (R72). -/
def State.lastRelease (s : State) : State :=
  if s.supply.state = .on then s.supplyLag else s

/-! ## Handing out actuations (R52, R53, R58) -/

/-- The actuation of one output, to the short address its decoder holds. -/
def actuation (op : FieldOp) (z : Nat) (ref : Ref) (addr : Nat) : Request :=
  { origin := .valve, slot := none, address := addr, replyAddr := some addr, op := op, payload := [u8 ref.num],
    subject := ref.serial, zone := z, releaseAddr := none }

/-- The ALL_CLOSE broadcast (R66). -/
def allCloseRequest : Request :=
  { origin := .valve, slot := none, address := 0, replyAddr := none, op := .allClose, payload := [], subject := 0#32,
    zone := 0, releaseAddr := none }

/-- An actuation is handed to the Field Scheduler; one whose decoder holds no short address is not (log 38). -/
def State.handActuation (op : FieldOp) (z : Nat) (ref : Ref) (s : State) : State :=
  match s.addrOf ref.serial with
  | some addr => s.ask (actuation op z ref addr)
  | none => s

/-- A request of the wait list that belongs to a zone's actuation record. -/
def Request.ofZone (z : Nat) (req : Request) : Bool := req.origin = .valve && req.zone = z

/-- A zone's record has an actuation waiting for an entry (R52). -/
def State.awaitsEntry (s : State) (z : Nat) : Bool := s.sched.waits.any fun w => w.req.ofZone z

/-- The first output of a record with one of two statuses. -/
def ActRecord.first (r : ActRecord) (a b : OutStatus) : Option Ref :=
  (r.outputs.find? fun o => o.status = a || o.status = b).map (·.ref)

/-- The next OPEN of a run: while the supply is ON, close_pending is clear and no actuation of the record is with the
Scheduler or waiting for it, the first output that is NOT_SENT (R53, R54). -/
def State.handOpen (z : Nat) (s : State) : State :=
  match s.run? z, s.record? z with
  | some r, some rec =>
    if r.state = .opening && !r.closePending && rec.inFlight.isNone && s.supply.state = .on && !s.awaitsEntry z then
      match rec.first .notSent .notSent with
      | some ref => s.handActuation .opn z ref
      | none => s
    else s
  | _, _ => s

/-- The supply has become ON: the first OPEN of every admitted run that has none handed out, in queue order (R53). -/
def State.supplyIsOn (s : State) : State :=
  s.forEach s.runZones fun z t => if t.openHanded z then t else t.handOpen z

/-- The first admission (R70). -/
def State.firstAdmission (s : State) : State :=
  match s.supply.state with
  | .idle =>
    if 0 < s.supply.leadS then s.setSupply .lead (some (s.uptime + s.supply.leadS))
    else (s.setSupply .on none).supplyIsOn
  | .lag => (s.setSupply .on none).supplyIsOn
  | .lead | .on | .tripped => s

/-! ## Admission (R32 to R37) -/

/-- The nominal flow of a zone. -/
def State.nominal (s : State) (z : Nat) : Nat :=
  match s.zone? z with
  | some r => r.cfg.nominalFlow
  | none => 0

/-- A hold applies to a run: a pausing hold by its origin (R42), and FREEZE to every run (section 5.7, log 29). -/
def State.held (s : State) (o : RunOrigin) : Bool := s.hold.applies o || s.hold.freeze

/-- Tests 1 to 6 of R33. -/
def State.eligibleBut (s : State) (r : Run) : Bool :=
  match s.zone? r.zone with
  | some z =>
    r.state = .waiting && !z.unreachable &&
    (!r.respectWindows || (s.clock.valid && Bank.isOpen s.grid.active r.zone s.clock.slot)) &&
    (r.origin = .manual || s.clock.valid) && !s.held r.origin && !(s.supply.state = .tripped)
  | none => false

/-- A run fits the flow budget (R35). -/
def State.fits (s : State) (z : Nat) : Bool :=
  s.arb.flowSum + s.nominal z ≤ s.supply.cap && s.arb.openCount < s.supply.maxOpen

/-- The budget is charged, and the first admission is reported (R32). -/
def State.charge (z : Nat) (s : State) : State :=
  let t := s.mapArb fun a => { a with flowSum := a.flowSum + s.nominal z, openCount := a.openCount + 1 }
  if s.arb.openCount = 0 then t.firstAdmission else t

/-- The actuation record of a newly admitted run (R50). -/
def State.makeRecord (z : Nat) (s : State) : State :=
  match s.zone? z with
  | some r =>
    s.mapSeqr fun q =>
      { q with records := q.records ++
          [{ zone := z, outputs := r.outputs.map fun ref => { ref := ref, status := .notSent }, openHanded := false,
             inFlight := none, cycleStart := none, cycleEnd := none, closeLimitAt := none, noRetry := false }] }
  | none => s

/-- Admission, in the four steps of R35. -/
def State.admitRun (z : Nat) (s : State) : State :=
  ((((s.modRun z fun r =>
      { r with state := .opening, skipCount := 0, blocking := false, closePending := false, destination := none }).charge
    z).reportRun z).makeRecord z).handOpen z

/-- The walk of one scan: the runs noted so far, those noted before an admission, whether a wake is to be asked for, and
whether the walk has stopped (R35, R36, R37). -/
structure Walk where
  st : State
  noted : List Nat
  skipped : List Nat
  wake : Bool
  stopped : Bool

/-- The walk reaches a run (R35). -/
def Walk.visit (z : Nat) (w : Walk) : Walk :=
  match w.st.run? z with
  | some r =>
    if w.stopped then w
    else if !w.st.eligibleBut r then w
    else if w.st.line.state = .quiet then { w with wake := true }
    else if !(w.st.line.state = .on) then w
    else if w.st.fits z then { w with st := w.st.admitRun z, skipped := w.noted }
    else if r.blocking then { w with stopped := true }
    else { w with noted := w.noted ++ [z] }
  | none => w

/-- A noted run with a run admitted after it gains a skip; the eighth sets blocking (R36). -/
def Run.skip (r : Run) : Run :=
  { r with skipCount := min 8 (r.skipCount + 1), blocking := r.blocking || 8 ≤ r.skipCount + 1 }

/-- One admission scan (R34 to R37); it settles the opportunity that asked for it. -/
def State.scan (s : State) : State :=
  let w := s.runZones.foldl (fun (w : Walk) z => w.visit z)
    ({ st := s, noted := [], skipped := [], wake := false, stopped := false } : Walk)
  let t := (w.st.forEach w.skipped fun z t => t.modRun z Run.skip).mapTodo fun d => { d with scan := false }
  if w.wake then t.wakeLine else t

/-! ## Entering the queue (R25, R26, R30) -/

/-- A run takes its place in queue order (R27). -/
def insertRun (r : Run) : List Run → List Run
  | [] => [r]
  | q :: rest => if r.before q then r :: q :: rest else q :: insertRun r rest

/-- The runs renumbered 0, 1, 2 and so on in queue order (R26). -/
def renumber : Nat → List Run → List Run
  | _, [] => []
  | n, r :: rest => { r with seq := n } :: renumber (n + 1) rest

/-- A run joins the queue with the counter's value as its seq; at 4294967295 the queue is renumbered (R26). -/
def Arbiter.enqueue (r : Run) (a : Arbiter) : Arbiter :=
  let runs := insertRun { r with seq := a.nextSeq } a.runs
  if a.nextSeq = 4294967295 then { a with runs := renumber 0 runs, nextSeq := runs.length }
  else { a with runs := runs, nextSeq := a.nextSeq + 1 }

/-- A new run record (R25): SUSPENDED with reason HOLD when a hold applies to it, and WAITING otherwise. -/
def State.newRun (s : State) (z : Nat) (o : RunOrigin) (len : Nat) (split respect : Bool) : Run :=
  { zone := z, origin := o, seq := s.arb.nextSeq, totalS := len, remainingS := len, split := split, cycleS := none,
    cyclesDone := 0, opened := false, state := if s.hold.applies o then .suspended else .waiting,
    suspHold := s.hold.applies o, suspLine := false, closePending := false, destination := none, skipCount := 0,
    blocking := false, respectWindows := respect, enqueuedAt := s.uptime, outcome := none, faultReason := none,
    soakEnd := none }

/-- A run is enqueued (R25) and its zone becomes DUE (R2); starting WAITING is an admission opportunity (R30, R31). -/
def State.enqueue (z : Nat) (o : RunOrigin) (len : Nat) (split respect : Bool) (s : State) : State :=
  let r := s.newRun z o len split respect
  let t := (s.mapArb (Arbiter.enqueue r)).reportRun z
  if r.state = .waiting then t.scan else t

/-! ## The estimate and the due decisions (R12 to R18) -/

/-- The wetness of the mapped channels that count (R12). -/
def State.wetnesses (s : State) (channels : List Ref) : List Nat :=
  channels.filterMap fun ref =>
    match s.channel? ref.serial ref.num with
    | some c => if c.fresh && c.quality = .good then c.lastWetness else none
    | none => none

/-- The estimate: the mean of the counting channels, rounded down (R12). -/
def State.estimateOf (s : State) (r : Zone) : Option Nat :=
  match s.wetnesses r.channels with
  | [] => none
  | ws => some (ws.sum / ws.length)

/-- The estimate of a zone is recomputed (R12). -/
def State.updateEstimate (z : Nat) (s : State) : State :=
  match s.zone? z with
  | some r => s.modZone z fun r' => { r' with estimate := s.estimateOf r }
  | none => s

/-- The length of a sensed run (R15). -/
def State.sensedLength (s : State) (r : Zone) (estimate : Nat) : Nat :=
  min ((r.cfg.high - estimate) * r.cfg.secPerPoint * s.hold.factor / 100) r.cfg.maxRunS

/-- The sensed due decision (R14, R15). -/
def State.dueDecision (z : Nat) (s : State) : State :=
  match s.zone? z with
  | some r =>
    match r.estimate with
    | some e =>
      if r.state = .monitor && r.mode = .sensed && e < r.cfg.low then
        if r.cfg.maxRunsPerDay ≤ r.runsToday then s.modZone z fun r' => { r' with capped := true }
        else if s.hold.freeze || s.supply.state = .tripped || s.sensedLength r e = 0 then s
        else s.enqueue z .auto (s.sensedLength r e) true true
      else s
    | none => s
  | none => s

/-- A recompute of the estimate, followed at once by the due decision (R13). -/
def State.recompute (z : Nat) (s : State) : State := (s.updateEstimate z).dueDecision z

/-- A changed channel record is reported: every zone that maps the channel is recomputed, in ascending order (R13). -/
def State.reportChannel (n : Serial) (ch : Nat) (s : State) : State :=
  s.forEach zoneNums fun z t =>
    match t.zone? z with
    | some r => if r.channels.contains { serial := n, num := ch } then t.recompute z else t
    | none => t

/-- The timed decision of one zone at a rollover (R18). -/
def State.timedDecision (z : Nat) (s : State) : State :=
  match s.zone? z with
  | some r =>
    let len := r.cfg.timedS * s.hold.factor / 100
    if r.state = .monitor && (r.mode = .timed || r.estimate.isNone) && 0 < r.cfg.timedIntervalDays &&
        r.cfg.timedIntervalDays ≤ r.daysSinceRun && !s.hold.freeze && !(s.supply.state = .tripped) && 0 < len then
      s.enqueue z .timed len true true
    else s
  | none => s

/-- The Zone Unit's handling of a day rollover (R16). -/
def State.rollover (count : Nat) (s : State) : State :=
  (s.mapZones fun l => l.map fun r =>
    { r with runsToday := 0, daysSinceRun := min 255 (r.daysSinceRun + count), capped := false }).forEach zoneNums
      State.timedDecision

/-! ## Leaving the budget and the queue (R29, R32) -/

/-- A run leaves the set of runs in OPEN, which clears low_alarmed (R79). -/
def State.leaveOpen (z : Nat) (s : State) : State :=
  if s.arb.openOrder.contains z then
    (s.mapArb fun a => { a with openOrder := a.openOrder.filter fun y => !(y = z) }).mapSupply fun u =>
      { u with lowAlarmed := false }
  else s

/-- The actuation record of a run is dropped, and its request for an entry leaves the wait list (R50, R147). -/
def State.dropRecord (z : Nat) (s : State) : State :=
  (s.mapSeqr fun q => { q with records := q.records.filter fun r => !(r.zone = z) }).dropWaits (Request.ofZone z)

/-- A share of the budget is released (R32): an admission opportunity, and at the last release the supply is told (R72).
A run that had an OPEN handed out, or was CLOSING, discards the flow window (R77). -/
def State.release (z : Nat) (s : State) : State :=
  match s.run? z with
  | some r =>
    if r.admitted then
      let t := if r.state = .closing || s.openHanded z then s.discardWindow else s
      let t := ((t.leaveOpen z).mapArb fun a =>
        { a with flowSum := a.flowSum - s.nominal z, openCount := a.openCount - 1 }).wantScan
      if s.arb.openCount = 1 then t.lastRelease else t
    else s
  | none => s

/-- The Zone Unit learns the outcome of the run that has left (R2, R3, R19). -/
def State.zoneOutcome (z : Nat) (o : RunOutcome) (reason : Option FaultReason) (s : State) : State :=
  match o with
  | .complete =>
    match s.zone? z with
    | some r =>
      let t := s.modZone z fun r' => { r' with daysSinceRun := 0 }
      if r.cfg.settleMin = 0 then (t.setZoneState z .monitor).dueDecision z
      else
        (t.modZone z fun r' => { r' with settleEnd := some (s.uptime + r.cfg.settleMin * 60) }).setZoneState z .settling
    | none => s
  | .fault => s.faultZone z (reason.getD .noResponse)
  | .cancelled | .expired | .frozen | .tripped => s.setZoneState z .monitor

/-- The seconds delivered (R29). -/
def Run.delivered (r : Run) : Nat := r.totalS - r.remainingS

/-- A run leaves the queue with an outcome, in the six steps of R29. -/
def State.leaveQueue (z : Nat) (o : RunOutcome) (reason : Option FaultReason) (s : State) : State :=
  match s.run? z with
  | some r =>
    let t := (((s.modRun z fun r' => { r' with outcome := some o, faultReason := reason, soakEnd := none }).release
      z).dropRecord z).post (.runDone z r.origin o r.delivered)
    let t := ((t.mapArb fun a => { a with runs := a.runs.filter fun q => !(q.zone = z) }).zoneOutcome z o reason).wantQuiet
    if r.blocking then t.wantScan else t
  | none => s

/-! ## Destinations (R43, R60, R61) -/

/-- The expiry timer of a run has fallen due (R38). -/
def State.expired (s : State) (r : Run) : Bool := r.enqueuedAt + 86400 ≤ s.uptime

/-- The soak time of a zone. -/
def State.soakTime (s : State) (z : Nat) : Nat :=
  match s.zone? z with
  | some r => r.cfg.soakS
  | none => 0

/-- The run record on its way out of the admitted states. -/
def Run.pause (st : RunState) (r : Run) : Run :=
  { r with state := st, closePending := false, destination := none, cycleS := none }

/-- An admitted run stops being admitted without leaving the queue: the share is released, the record is dropped, and
the Zone Unit is told (R32, R50). -/
def State.settle (z : Nat) (f : Run → Run) (s : State) : State :=
  (((s.release z).dropRecord z).modRun z f).reportRun z

/-- A run reaches a destination with its closes done (R60), or with no output of it opened (R39, R42, R111). A waiting
destination of a run whose expiry timer has fallen due becomes EXPIRED (R38). -/
def State.arriveAt (z : Nat) (d : Dest) (s : State) : State :=
  match s.run? z with
  | some r =>
    match d.outcome with
    | some (o, reason) => s.leaveQueue z o reason
    | none =>
      if s.expired r then s.leaveQueue z .expired none
      else
        match d with
        | .soaking =>
          s.settle z fun q => { q.pause .soaking with soakEnd := some (s.uptime + s.soakTime z) }
        | .suspended =>
          if s.hold.applies r.origin then s.settle z fun q => { q.pause .suspended with suspHold := true }
          else s.settle z (Run.pause .waiting)
        | _ => s.settle z (Run.pause .waiting)
  | none => s

/-- The closes of a run are done: the close limit stops and the run goes to the destination it holds (R58, R60). -/
def State.arrive (z : Nat) (s : State) : State :=
  match s.run? z with
  | some r =>
    match r.destination with
    | some d => (s.modRecord z fun rec => { rec with closeLimitAt := none }).arriveAt z d
    | none => s
  | none => s

/-! ## The close decision and the closes (R57, R58) -/

/-- The next CLOSE of a run in CLOSING, or its arrival when the closes are done (R58). -/
def State.handClose (z : Nat) (s : State) : State :=
  match s.record? z with
  | some rec =>
    if rec.closesDone then s.arrive z
    else if rec.inFlight.isSome || s.awaitsEntry z then s
    else
      match rec.first .opened .unknown with
      | some ref => s.handActuation .close z ref
      | none => s
  | none => s

/-- The seconds of the cycle that have passed, at most cycle_s (R57). -/
def State.elapsed (s : State) (r : Run) : Nat :=
  if r.state = .opened then
    match s.record? r.zone with
    | some rec =>
      match rec.cycleStart with
      | some t => min (s.uptime - t) (r.cycleS.getD 0)
      | none => 0
    | none => 0
  else 0

/-- The destination a stop cause offers, and COMPLETE when a cycle has brought remaining_s to 0 (R57). -/
def Run.settleDest (r : Run) (offer : Option Dest) (remaining : Nat) : Option Dest :=
  let held :=
    match offer with
    | some d => Dest.offer r.destination d
    | none => r.destination
  if r.state = .opened && remaining = 0 then Dest.offer held .complete else held

/-- The close decision, in the five steps of R57. DESIGN CHOICE (log 59): the cause offers the destination of R57's table
alone, so a boundary cut taken before a cycle timer that falls due with it offers WAITING, and one taken after it leaves
SOAKING, though R57 and R111 say that both orders end alike. -/
def State.closeDecision (z : Nat) (offer : Option Dest) (s : State) : State :=
  match s.run? z with
  | some r =>
    let remaining := r.remainingS - s.elapsed r
    let t := (((s.leaveOpen z).discardWindow).dropWaits (Request.ofZone z)).modRecord z fun rec =>
      { rec with cycleEnd := none, closeLimitAt := some (s.timeBase + 20000) }
    let t := t.modRun z fun q =>
      { q with state := .closing, remainingS := remaining, destination := r.settleDest offer remaining,
               closePending := false }
    (t.reportRun z).handClose z
  | none => s

/-- The length of a cycle (R55). -/
def State.cycleLength (s : State) (r : Run) : Nat :=
  match s.zone? r.zone with
  | some z => if r.split && 0 < z.cfg.cycleMaxS then min r.remainingS z.cfg.cycleMaxS else r.remainingS
  | none => r.remainingS

/-- The first entry to OPEN of an AUTO or TIMED run counts toward runs_today (R17). -/
def State.countOpen (z : Nat) (r : Run) (s : State) : State :=
  if !r.opened && !(r.origin = .manual) then s.modZone z fun q => { q with runsToday := min 8 (q.runsToday + 1) } else s

/-- A run enters OPEN (R28, R54, R55). Its opening has discarded the flow window (R77), and a new set of open runs clears
low_alarmed (R79). -/
def State.enterOpen (z : Nat) (s : State) : State :=
  match s.run? z with
  | some r =>
    let len := s.cycleLength r
    let t := (((s.discardWindow).mapSupply fun u => { u with lowAlarmed := false }).modRecord z fun rec =>
      { rec with cycleStart := some s.uptime, cycleEnd := some (s.uptime + len) }).mapArb fun a =>
        { a with openOrder := a.openOrder ++ [z] }
    let t := t.modRun z fun q =>
      { q with state := .opened, opened := true, cyclesDone := min 255 (q.cyclesDone + 1), cycleS := some len }
    (t.countOpen z r).reportRun z
  | none => s

/-! ## Stop causes (R39, R42, R59, R111) -/

/-- A stop cause reaches a run with its destination, by the run's state (R39, R42, R59, R111). -/
def State.applyCause (d : Dest) (z : Nat) (s : State) : State :=
  match s.run? z with
  | some r =>
    match r.state with
    | .waiting | .soaking | .suspended =>
      match d.outcome with
      | some (o, reason) => s.leaveQueue z o reason
      | none =>
        if d = .suspended then
          (s.modRun z fun q => { q with state := .suspended, suspHold := true, soakEnd := none }).reportRun z
        else s
    | .opening =>
      if s.openHanded z then
        let t := s.modRun z fun q => { q with closePending := true, destination := Dest.offer q.destination d }
        match s.record? z with
        | some rec => if rec.inFlight.isNone then t.closeDecision z none else t
        | none => t
      else s.arriveAt z d
    | .opened => s.closeDecision z (some d)
    | .closing => s.modRun z fun q => { q with destination := Dest.offer q.destination d }
  | none => s

/-- A cause stops every run in the queue (R41, R45). DESIGN CHOICE (log 51): the runs are taken in queue order, those that
close or are offered the destination among those that leave; R29 orders only the ones that leave. -/
def State.stopAll (d : Dest) (s : State) : State := s.forEach s.runZones (State.applyCause d)

/-- The close decision that the end of an OPEN brings, with the destination it offers (R54, R63, R64). A run that is
CLOSING already takes the offer and goes on with its closes (R58). -/
def State.closeAfterOpen (z : Nat) (offer : Option Dest) (s : State) : State :=
  match s.run? z with
  | some r =>
    if r.state = .closing then
      (match offer with
        | some d => s.modRun z fun q => { q with destination := Dest.offer q.destination d }
        | none => s).handClose z
    else s.closeDecision z offer
  | none => s

/-- An OPEN that failed or was withdrawn: its output becomes UNKNOWN and the run closes, offering FAULT with
NO_RESPONSE (R64). -/
def State.openFailed (z : Nat) (ref : Ref) (s : State) : State :=
  (s.modRecord z fun rec => { rec.setOutput ref .unknown with inFlight := none }).closeAfterOpen z
    (some (.fault .noResponse))

/-- The output an actuation entry names. -/
def Entry.output (e : Entry) : Ref := { serial := e.subject, num := byteAt e.payload 0 }

/-! ## The trip (R73, R74) and the STUCK path (R66) -/

/-- The supply has left ON: a QUEUED OPEN is withdrawn, and fails unless its record has been dropped; one that is SENT or
HOLDING makes no further attempt, and so does one whose COLLECT is still to come (R56, log 42). -/
def State.withdrawOpen (i : Nat) (s : State) : State :=
  match s.entry? i with
  | some e =>
    if e.state = .queued && e.op = .opn then
      let t := s.freeEntry i
      match s.record? e.zone with
      | some rec => if rec.inFlight = some (i, e.gen) then t.openFailed e.zone e.output else t
      | none => t
    else if !(e.state = .free) && e.asked = .opn then
      (s.modEntry i fun x => { x with noRetry := true }).modRecord e.zone fun rec =>
        if rec.inFlight = some (i, e.gen) then { rec with noRetry := true } else rec
    else s
  | none => s

/-- A trip (R73), or a repeated one (R74). OPENs in flight are withdrawn or limited whatever state the supply leaves: the
last release of the run that failed to close may have taken it from ON to LAG or IDLE just before, in the same action
(R56, log 42). DESIGN CHOICE (log 52): several QUEUED OPENs are withdrawn in the order of their entries. -/
def State.trip (cause : TripCause) (s : State) : State :=
  if s.supply.state = .tripped then (s.post (.supplyEvent .tripRepeat (some cause) none)).stopAll .tripped
  else
    let t := s.mapSupply fun u =>
      { u with state := .tripped, tripCause := some cause, timerEnd := none, highCount := 0, lowCount := 0,
               leakCount := 0, lowAlarmed := false, windowDiscard := true }
    ((t.post (.supplyEvent .trip (some cause) (some s.supply.state))).stopAll .tripped).forEach (List.range 16)
      State.withdrawOpen

/-- An entry still carries the actuation that a record names as in flight. -/
def Entry.carries (gen : Bool) (e : Entry) : Bool := !(e.state = .free) && e.gen = gen

/-- The actuation of a record on the STUCK path: QUEUED it is withdrawn, SENT or HOLDING it is left to end and its
completion is discarded. An actuation of an earlier record of the zone runs on (R66, R156). -/
def State.abandonActuation (z : Nat) (s : State) : State :=
  match (s.record? z).bind (·.inFlight) with
  | some (i, gen) =>
    match s.entry? i with
    | some e =>
      if e.carries gen then if e.state = .queued then s.freeEntry i else s.modEntry i Entry.detach else s
    | none => s
  | none => s

/-- Steps 1 and 2 of R66: the actuations of the run are withdrawn, and it leaves with FAULT and reason STUCK. -/
def State.stuckLeave (z : Nat) (s : State) : State :=
  ((s.dropWaits (Request.ofZone z)).abandonActuation z).leaveQueue z .fault (some .stuck)

/-- Steps 3 and 4 of R66: the trip, and three ALL_CLOSE broadcasts. -/
def State.stuckTrip (s : State) : State :=
  (((s.trip .stuck).ask allCloseRequest).ask allCloseRequest).ask allCloseRequest

/-- A run is admitted. -/
def State.hasAdmitted (s : State) (z : Nat) : Bool :=
  match s.run? z with
  | some r => r.admitted
  | none => false

/-- A close failure of an admitted run: the STUCK path, in the four steps of R66. -/
def State.stuckPath (z : Nat) (s : State) : State :=
  if s.hasAdmitted z then (s.stuckLeave z).stuckTrip else s

/-! ## Line loss and return (R44, R67) -/

/-- An admitted run at the loss of line power: its elapsed seconds are taken, and it goes as the table of R44 gives. -/
def State.loseLine (z : Nat) (s : State) : State :=
  match s.run? z with
  | some r =>
    if r.admitted then
      let remaining := r.remainingS - s.elapsed r
      let t := s.modRun z fun q => { q with remainingS := remaining }
      match (r.settleDest none remaining).bind Dest.outcome with
      | some (o, reason) => t.leaveQueue z o reason
      | none =>
        if s.expired r then t.leaveQueue z .expired none
        else t.settle z fun q =>
          { q.pause .suspended with suspLine := true, suspHold := s.hold.applies r.origin }
    else s
  | none => s

/-- The Sequencer and the Arbiter at the loss of line power (R44, R67). DESIGN CHOICE (log 27): the admitted runs are
taken in queue order, those that are suspended among those that leave; R29 orders only the ones that leave. -/
def State.loseLineRuns (s : State) : State := s.forEach s.runZones State.loseLine

/-- A run becomes WAITING when its reason set is empty (R43, R44). -/
def Run.resume (r : Run) : Run :=
  if r.state = .suspended && !r.suspHold && !r.suspLine then { r with state := .waiting } else r

/-- The field line has reached ON from SWEEPING: LINE is removed from every run (R44). -/
def State.returnLine (s : State) : State :=
  s.mapArb fun a => { a with runs := a.runs.map fun r => ({ r with suspLine := false }).resume }

end Sys2Proof.Machine
end

