-- ==== Sys2Proof/Machine/HoldOps.lean ====
section
/-!
DEFINITION. The Hold Unit: the start and the end of each hold, the RAIN sources and their release timer, and the judging
of a report (chapter 5).
-/
namespace Sys2Proof.Machine

/-! ## Holds and the runs (R42, R43, R95, R96) -/

/-- A pausing hold starts: every run to which it applies is acted on; `everyOrigin` is yes for MANUAL alone (R42, R95).
DESIGN CHOICE (log 51): the runs are taken in queue order. -/
def State.holdStart (everyOrigin : Bool) (s : State) : State :=
  s.forEach s.runZones fun z t =>
    match t.run? z with
    | some r => if everyOrigin || !(r.origin = .manual) then t.applyCause .suspended z else t
    | none => t

/-- HOLD is removed from every SUSPENDED run to which no active hold applies (R43, R96). -/
def State.releaseHeld (s : State) : State :=
  s.mapArb fun a =>
    { a with runs := a.runs.map fun r =>
        if r.state = .suspended && !s.hold.applies r.origin then ({ r with suspHold := false }).resume else r }

/-- A hold has ended: an admission opportunity of its own (R96). -/
def State.holdEnd (s : State) : State := s.releaseHeld.scan

/-! ## RAIN (R88 to R90) -/

/-- The union of two source sets. -/
def RainSources.union (a b : RainSources) : RainSources :=
  { contact := a.contact || b.contact, observed := a.observed || b.observed, forecast := a.forecast || b.forecast }

/-- A source set without the sources of another. -/
def RainSources.minus (a b : RainSources) : RainSources :=
  { contact := a.contact && !b.contact, observed := a.observed && !b.observed, forecast := a.forecast && !b.forecast }

/-- The sources two sets share. -/
def RainSources.inter (a b : RainSources) : RainSources :=
  { contact := a.contact && b.contact, observed := a.observed && b.observed, forecast := a.forecast && b.forecast }

/-- No source. -/
def RainSources.none : RainSources := { contact := false, observed := false, forecast := false }

/-- A HOLD_EVENT of RAIN, with the sources asserted after the change (R97). -/
def State.postRain (event : HoldEvent) (minutes : Option Nat) (s : State) : State :=
  s.post (.holdEvent .rain event (some s.hold.sources) minutes)

/-- Sources are added to RAIN (R90). -/
def State.rainAdd (added : RainSources) (s : State) : State :=
  let sources := s.hold.sources.union added
  if sources = s.hold.sources then s
  else
    let t := s.mapHold fun h => { h with sources := sources, rainActive := true, releaseEnd := Option.none }
    if !s.hold.rainActive then (t.postRain .start Option.none).holdStart false
    else if s.hold.releaseEnd.isSome then t.postRain .resumed Option.none
    else t

/-- RAIN ends (R90). -/
def State.rainEnd (s : State) : State :=
  ((s.mapHold fun h => { h with rainActive := false, releaseEnd := Option.none }).postRain .ended Option.none).holdEnd

/-- Sources are removed from RAIN (R90). -/
def State.rainRemove (gone : RainSources) (s : State) : State :=
  let lost := s.hold.sources.inter gone
  let sources := s.hold.sources.minus gone
  let t := s.mapHold fun h => { h with sources := sources }
  if lost.isEmpty then s
  else if !sources.isEmpty then t
  else if (lost.contact || lost.observed) && 0 < s.hold.cfg.releaseMin then
    (t.mapHold fun h => { h with releaseEnd := some (s.uptime + s.hold.cfg.releaseMin * 60) }).postRain .releasing
      (some s.hold.cfg.releaseMin)
  else t.rainEnd

/-! ## WIND, FREEZE and MANUAL (R91 to R94) -/

/-- WIND starts (R91). -/
def State.windStart (s : State) : State :=
  ((s.mapHold fun h => { h with wind := true }).post (.holdEvent .wind .start none none)).holdStart false

/-- WIND ends, if it is active (R91). -/
def State.windEnd (s : State) : State :=
  if s.hold.wind then
    ((s.mapHold fun h => { h with wind := false }).post (.holdEvent .wind .ended none none)).holdEnd
  else s

/-- FREEZE starts: every run is stopped with FROZEN (R92, R45). -/
def State.freezeStart (s : State) : State :=
  ((s.mapHold fun h => { h with freeze := true }).post (.holdEvent .freeze .start none none)).stopAll .frozen

/-- FREEZE ends (R92). -/
def State.freezeEnd (s : State) : State :=
  ((s.mapHold fun h => { h with freeze := false }).post (.holdEvent .freeze .ended none none)).holdEnd

/-- The MANUAL hold ends, if it is active (R94). -/
def State.manualEnd (s : State) : State :=
  if s.hold.manual then
    ((s.mapHold fun h => { h with manual := false, manualEnd := none }).post
      (.holdEvent .manual .ended none none)).holdEnd
  else s

/-! ## The judging of a report (R84, R87, R88, R91, R92) -/

/-- The rain sources the report held asserts, against the thresholds in force (R88). -/
def HoldUnit.reported (h : HoldUnit) : RainSources :=
  match h.weather with
  | some w =>
    { contact := false, observed := h.cfg.rainThreshold ≤ w.rainMmX10, forecast := h.cfg.probThreshold ≤ w.rainProbPct }
  | none => RainSources.none

/-- The condition of WIND (R91). -/
def HoldUnit.windy (h : HoldUnit) : Bool :=
  match h.weather with
  | some w => h.cfg.windThreshold ≤ w.windKmh
  | none => false

/-- FREEZE starts at the report held (R92). -/
def HoldUnit.freezes (h : HoldUnit) : Bool :=
  match h.weather with
  | some w => !h.freeze && w.tempC ≤ h.cfg.freezeOn
  | none => false

/-- FREEZE ends at the report held (R92). -/
def HoldUnit.thaws (h : HoldUnit) : Bool :=
  match h.weather with
  | some w => h.freeze && h.cfg.freezeOff ≤ w.tempC
  | none => false

/-- The report's sources that RAIN loses: OBSERVED and FORECAST where they are not asserted (R88). -/
def HoldUnit.dropped (h : HoldUnit) : RainSources :=
  { contact := false, observed := !h.reported.observed, forecast := !h.reported.forecast }

/-- The starts of RAIN and WIND that a judgement finds, in that order (R84). DESIGN CHOICE (log 35): a source that is added
while RAIN's release timer runs is applied here too, so that RAIN RESUMED stands where RAIN's start would. -/
def State.startsFound (s : State) : State :=
  let t := s.rainAdd s.hold.reported
  if t.hold.windy && !t.hold.wind then t.windStart else t

/-- The ends of RAIN and WIND that a judgement finds, in that order (R84, log 35). -/
def State.endsFound (s : State) : State :=
  let t := s.rainRemove s.hold.dropped
  if t.hold.windy then t else t.windEnd

/-- Steps 2 and 3 of R84: the starts FREEZE, RAIN, WIND, then the ends. -/
def State.judgeReport (s : State) : State :=
  let t := if s.hold.freezes then s.freezeStart else s
  let t := t.startsFound
  (if t.hold.thaws then t.freezeEnd else t).endsFound

end Sys2Proof.Machine
end

