-- ==== Sys2Proof/Machine/PlanOps.lean ====
section
/-!
DEFINITION. The Window Grid's cells, window and cursor, the slot boundary and the day rollover (chapter 6).
-/
namespace Sys2Proof.Machine

/-! ## Cells (R104) -/

/-- An address joins a bank's ascending list of BLOCKED cells. -/
def Bank.block (a : Nat) : Bank → Bank
  | [] => [a]
  | b :: rest => if a < b then a :: b :: rest else if a = b then b :: rest else b :: Bank.block a rest

/-- A cell of a bank takes a value. -/
def Bank.setCell (b : Bank) (zone slot : Nat) (isOpen : Bool) : Bank :=
  if isOpen then b.filter (· ≠ cellAddr zone slot) else Bank.block (cellAddr zone slot) b

/-! ## The window and the cursor (R105, R106) -/

/-- One step of the cursor (R106). -/
def Grid.step (g : Grid) : Grid :=
  match g.order with
  | .acrossSlots =>
    if g.curSlot < g.slotEnd then { g with curSlot := g.curSlot + 1 }
    else if g.curZone < g.zoneEnd then { g with curSlot := g.slotStart, curZone := g.curZone + 1 }
    else { g with curSlot := g.slotStart, curZone := g.zoneStart }
  | .acrossZones =>
    if g.curZone < g.zoneEnd then { g with curZone := g.curZone + 1 }
    else if g.curSlot < g.slotEnd then { g with curZone := g.zoneStart, curSlot := g.curSlot + 1 }
    else { g with curZone := g.zoneStart, curSlot := g.slotStart }

/-- Values written into STAGING from the cursor, in list order (R107). -/
def Grid.write : List Bool → Grid → Grid
  | [], g => g
  | v :: rest, g => Grid.write rest ({ g with staging := g.staging.setCell g.curZone g.curSlot v } : Grid).step

/-- Values of a bank taken from the cursor, in the order taken, and the grid with its cursor moved (R108). -/
def Grid.read (b : Bank) : Nat → Grid → List Bool × Grid
  | 0, g => ([], g)
  | n + 1, g =>
    let rest := Grid.read b n g.step
    (b.isOpen g.curZone g.curSlot :: rest.1, rest.2)

/-- The number of cells in the window (R105). -/
def Grid.cells (g : Grid) : Nat := (g.zoneEnd - g.zoneStart + 1) * (g.slotEnd - g.slotStart + 1)

/-- An armed swap: ACTIVE takes STAGING and the swap is disarmed; the two banks are then equal (R110). -/
def Grid.swap (g : Grid) : Grid := if g.swapArmed then { g with active := g.staging, swapArmed := false } else g

/-! ## Boundaries and rollovers (R110 to R112) -/

/-- The boundary cut reaches the runs that respect windows and whose new cell is BLOCKED (R111). DESIGN CHOICE (log 51):
the runs are taken in queue order. -/
def State.cutRuns (s : State) : State :=
  s.forEach s.runZones fun z t =>
    match t.run? z with
    | some r =>
      if r.respectWindows && !Bank.isOpen t.grid.active z t.clock.slot then t.applyCause .waiting z else t
    | none => t

/-- A slot boundary, in the five steps of R110; minute and day already hold their new values (log 17). SLOT is posted
before the cut moves a run: "The notices posted by the runs that step 3 moves ... come later" (R110). -/
def State.boundary (s : State) : State :=
  let swapped := s.grid.swapArmed
  let t := (s.mapClock fun c => { c with slot := c.minute / 30 }).mapGrid Grid.swap
  ((t.post (.slot t.clock.slot t.clock.day swapped)).cutRuns).scan

/-- A day rollover with its day count: the DAY notice, then the Zone Unit (R112, R16). -/
def State.dayRollover (count : Nat) (s : State) : State := (s.post (.day s.clock.day count)).rollover count

end Sys2Proof.Machine
end

