-- ==== Sys2Proof/Machine/DeviceOps.lean ====
section
/-!
DEFINITION. The Device Manager and the Sensor Poller: short addresses and their release, poll records, channel records,
loss by misses, and placement (chapters 7 and 8).
-/
namespace Sys2Proof.Machine

/-! ## The unreachable flags (R10) -/

/-- A device named in a map is READY and enrolled (R10). -/
def State.reachable (s : State) (ref : Ref) : Bool :=
  match s.device? ref.serial with
  | some d => d.state = .ready && d.enrolled
  | none => false

/-- The unreachable flag of a zone is derived again; its clearing for a zone with a run is an admission opportunity
(R10). -/
def State.rederive (z : Nat) (s : State) : State :=
  match s.zone? z with
  | some r =>
    let lost := r.outputs.any fun ref => !s.reachable ref
    let t := s.modZone z fun q => { q with unreachable := lost }
    if r.unreachable && !lost && (s.run? z).isSome then t.wantScan else t
  | none => s

/-- A change of state of a device reaches every zone (R10). -/
def State.rederiveAll (s : State) : State := s.forEach zoneNums State.rederive

/-- A zone's map names a serial in its outputs. -/
def Zone.waters (n : Serial) (r : Zone) : Bool := r.outputs.any (·.serial = n)

/-- A zone's map names a serial anywhere (R11). -/
def Zone.names (n : Serial) (r : Zone) : Bool := r.waters n || r.channels.any (·.serial = n)

/-! ## Requests to the Scheduler -/

/-- The ASSIGN that gives a device an address (R134). -/
def assignRequest (n : Serial) (addr : Nat) : Request :=
  { origin := .discovery, slot := none, address := 63, replyAddr := some addr, op := .assign,
    payload := u32 n ++ [u8 addr], subject := n, zone := 0, releaseAddr := none }

/-- The release ASSIGN (R130). -/
def releaseRequest (n : Serial) (addr : Nat) : Request :=
  { origin := .discovery, slot := none, address := 63, replyAddr := none, op := .assign,
    payload := u32 n ++ [0#8], subject := n, zone := 0, releaseAddr := some addr }

/-- The INVITE that carries the floor (R131). -/
def inviteRequest (floor : Serial) : Request :=
  { origin := .discovery, slot := none, address := 63, replyAddr := none, op := .invite, payload := u32 floor,
    subject := 0#32, zone := 0, releaseAddr := none }

/-- A command without payload to one device. -/
def deviceRequest (o : Origin) (slot : Option Nat) (op : FieldOp) (n : Serial) (addr : Nat) : Request :=
  { origin := o, slot := slot, address := addr, replyAddr := some addr, op := op, payload := [], subject := n,
    zone := 0, releaseAddr := none }

/-! ## Short addresses (R130) -/

/-- The short addresses that are held or wait for their release. -/
def State.takenAddrs (s : State) : List Nat := s.devices.filterMap (·.shortAddr) ++ s.devs.releasing

/-- The lowest free address in 1..62 (R130). -/
def State.freeAddr (s : State) : Option Nat := (List.range' 1 62).find? fun a => !s.takenAddrs.contains a

/-- A record gives up its address with a release ASSIGN (R130). -/
def State.giveUp (n : Serial) (s : State) : State :=
  match s.addrOf n with
  | some addr =>
    ((s.modDevice n fun d => { d with shortAddr := none }).mapDevs fun m =>
      { m with releasing := m.releasing ++ [addr] }).ask (releaseRequest n addr)
  | none => s

/-- A record that is not READY becomes UNPLACED and gives up its address. -/
def State.unplace (n : Serial) (s : State) : State :=
  (s.modDevice n fun d => { d with state := .unplaced }).giveUp n

/-! ## Poll records (R121) -/

/-- A poll record is made, WAITING and due at once; a probe has at most one (R121). -/
def State.makePoll (n : Serial) (s : State) : State :=
  if (s.poll? n).isSome then s
  else
    (s.mapPoller fun p =>
      { p with polls := p.polls ++
          [{ serial := n, state := .waiting, nextPoll := some s.uptime, dueSince := none, entry := none }] }).wantQuiet

/-- A poll record is removed, and a deferred poll leaves the wait list (R121, R147). -/
def State.removePoll (n : Serial) (s : State) : State :=
  (s.mapPoller fun p => { p with polls := p.polls.filter fun r => !(r.serial = n) }).dropWaits
    fun req => req.origin = .poll && req.subject = n

/-! ## Channel records (R114 to R117) -/

/-- A channel record is freed, and the freeing is reported (R117). -/
def State.freeChannel (n : Serial) (ch : Nat) (s : State) : State :=
  (s.mapPoller fun p =>
    { p with channels := p.channels.map fun o =>
        match o with
        | some c => if c.serial = n && c.channel = ch then none else some c
        | none => none }).reportChannel n ch

/-- The channel records of a probe above a count are freed (R116, R117). -/
def State.freeAbove (n : Serial) (count : Nat) (s : State) : State :=
  s.forEach ((s.heldChannels n).filter (count < ·)) fun ch t => t.freeChannel n ch

/-- A new channel record (R115). -/
def Channel.fresh0 (n : Serial) (ch dry wet : Nat) : Channel :=
  { serial := n, channel := ch, dry := dry, wet := wet, lastRaw := none, lastWetness := none, readingAt := none,
    quality := .none, fresh := false, staleAt := none }

/-- One channel of a READ_CAL result: its record takes the new points, or a record is made while the table has a free
index (R115). -/
def State.takePoints (n : Serial) (payload : List Byte) (ch : Nat) (s : State) : State :=
  let pts := pointsOf payload ch
  if (s.channel? n ch).isSome then s.modChannel n ch fun c => { c with dry := pts.1, wet := pts.2 }
  else
    match freeIndex s.poller.channels with
    | some i =>
      (s.mapPoller fun p => { p with channels := p.channels.set i (some (Channel.fresh0 n ch pts.1 pts.2)) }).reportChannel
        n ch
    | none => s

/-- A DEVICE_EVENT that carries its serial alone (log 36). -/
def State.deviceEvent (event : DeviceEvent) (n : Serial) (s : State) : State :=
  s.post (.deviceEvent event n none none none none none)

/-- The channels 1 to `count` of a probe take the points of a READ_CAL result, posting PARTIAL when the probe is left
short (R115). DESIGN CHOICE (log 45): PARTIAL follows the reports of the new records, and the notices of the due decisions
they bring. -/
def State.givePoints (n : Serial) (count : Nat) (payload : List Byte) (s : State) : State :=
  let t := s.forEach (List.range' 1 count) (State.takePoints n payload)
  let held := (t.heldChannels n).length
  if held < count then t.post (.deviceEvent .partialProbe n none (some count) none none (some held)) else t

/-- The result of a READ_CAL is taken up for a probe of `count` channels (R115, R116). DESIGN CHOICE (log 45): at a
placement the records above a smaller count are freed here, when the READ_CAL has completed with OK. -/
def State.takeUp (n : Serial) (count : Nat) (payload : List Byte) (s : State) : State :=
  (s.freeAbove n count).givePoints n count payload

/-! ## Loss by misses (R140, R20) -/

/-- The zones that have a run and name a serial in their outputs, in queue order. -/
def State.runsNaming (n : Serial) (s : State) : List Nat :=
  s.runZones.filter fun z =>
    match s.zone? z with
    | some r => r.waters n
    | none => false

/-- A run of a zone whose device is lost leaves: by a close failure while it is admitted, and otherwise with FAULT and
reason DEVICE_LOST (R20). -/
def State.lostRun (z : Nat) (s : State) : State :=
  if s.hasAdmitted z then s.stuckLeave z else s.leaveQueue z .fault (some .deviceLost)

/-- The runs of some zones leave at the loss or the re-placement of a device, in queue order (R29); then, for each that met
a close failure, the trip and the broadcasts follow (R66). DESIGN CHOICE (log 44): no trip comes between two of the runs,
since it would stop the later ones with TRIPPED. -/
def State.lostRuns (zones : List Nat) (s : State) : State :=
  (s.forEach zones State.lostRun).forEach (zones.filter s.hasAdmitted) fun _ t => t.stuckTrip

/-- The loss of an output device reaches a zone that has no run (R20). -/
def State.zoneLost (n : Serial) (z : Nat) (s : State) : State :=
  match s.zone? z with
  | some r =>
    if r.waters n && (s.run? z).isNone && (r.state = .monitor || r.state = .settling) then s.faultZone z .deviceLost
    else s
  | none => s

/-- A device is lost by misses, in the four steps of R140; the flags are derived before the zones are acted on (DESIGN
CHOICE, log 26).
DESIGN CHOICE (log 44): the runs of the zones that water through the device leave in queue order (R29), then the trip and
the broadcasts of each close failure follow, and then the zones without a run are faulted in ascending order.
DESIGN CHOICE (log 63): a DEVICE_QUERY of the device goes on as if the record were READY. -/
def State.missLoss (n : Serial) (s : State) : State :=
  match s.device? n with
  | some d =>
    let t := ((s.modDevice n fun q => { q with state := .unplaced, missCount := 0 }).giveUp n).post
      (.deviceEvent .lost n (some d.kind) none none none none)
    let t := (t.rederiveAll).removePoll n
    (t.lostRuns (t.runsNaming n)).forEach zoneNums (State.zoneLost n)
  | none => s

/-- A completion with TIMEOUT or CONTENTION (R140). -/
def State.addMiss (n : Serial) (s : State) : State :=
  match s.device? n with
  | some d =>
    if d.state = .ready then
      if 3 ≤ d.missCount + 1 then s.missLoss n else s.modDevice n fun q => { q with missCount := q.missCount + 1 }
    else s
  | none => s

/-- A completion with any answer from the device (R140). -/
def State.clearMiss (n : Serial) (s : State) : State :=
  s.modDevice n fun d => if d.state = .ready then { d with missCount := 0 } else d

/-! ## Identification (R136, R137) -/

/-- A zone's map disagrees with what a device reports (R136). -/
def Zone.clashes (n : Serial) (d : Identity) (r : Zone) : Bool :=
  (r.outputs.any fun ref => ref.serial = n && (!(d.kind = .decoder) || d.count < ref.num)) ||
    r.channels.any fun ref => ref.serial = n && (!(d.kind = .probe) || d.count < ref.num)

/-- An identity disagrees with the Zone Map (R136). -/
def State.mismatch (s : State) (n : Serial) (d : Identity) : Bool := s.zones.any (Zone.clashes n d)

/-- DEVICE_EVENT KIND_MISMATCH, with the kind and count the device reported (R136). -/
def State.postMismatch (n : Serial) (d : Identity) (s : State) : State :=
  s.post (.deviceEvent .kindMismatch n (some d.kind) (some d.count) none none none)

/-- A valid identity without mismatch is recorded; a probe that has become a decoder loses its channel records (R136). -/
def State.recordIdentity (n : Serial) (d : Identity) (s : State) : State :=
  let t := s.modDevice n fun q => { q with kind := d.kind, model := some d.model, count := some d.count }
  match s.device? n with
  | some q => if q.kind = .probe && d.kind = .decoder then t.freeAbove n 0 else t
  | none => t

/-- A record enters READY: miss_count 0, PLACED, then the Zone Unit and the Poller are told (R137). -/
def State.becomeReady (n : Serial) (s : State) : State :=
  match s.device? n with
  | some d =>
    let t := ((s.modDevice n fun q => { q with state := .ready, missCount := 0 }).post
      (.deviceEvent .placed n (some d.kind) d.count d.shortAddr (some d.enrolled) none)).rederiveAll
    if d.enrolled && d.kind = .probe then t.makePoll n else t
  | none => s

/-! ## Records of the Device Table (R129, R133) -/

/-- A new record (R129). -/
def newDevice (n : Serial) (enrolled : Bool) (interval created : Nat) : Device :=
  { serial := n, kind := .unknown, model := none, count := none, shortAddr := none, state := .unplaced,
    enrolled := enrolled, duplicate := false, kindMismatch := false, missCount := 0, pollInterval := interval,
    createdSeq := created }

/-- A record takes the lowest free index and the creation counter's value (R129). -/
def State.createDevice (n : Serial) (enrolled : Bool) (interval : Nat) (s : State) : State :=
  match freeIndex s.devs.table with
  | some i =>
    s.mapDevs fun m =>
      { m with table := m.table.set i (some (newDevice n enrolled interval m.created)),
               created := min 4294967295 (m.created + 1) }
  | none => s

/-- A record is removed and its index freed. -/
def State.removeDevice (n : Serial) (s : State) : State :=
  s.mapDevs fun m =>
    { m with table := m.table.map fun o =>
        match o with
        | some d => if d.serial = n then none else some d
        | none => none }

/-- A record that may be evicted (R133). -/
def Device.evictable (d : Device) : Bool := !d.enrolled && (d.state = .unplaced || d.state = .ready)

/-- The better of two records to evict: the lowest created_seq, then the lower index (R133). -/
def olderDevice (best : Option Device) (d : Device) : Option Device :=
  if d.evictable then
    match best with
    | some b => if d.createdSeq < b.createdSeq then some d else some b
    | none => some d
  else best

/-- The record that R133 evicts. -/
def State.victim (s : State) : Option Device := s.devices.foldl olderDevice none

/-- Room for a new record: a free index, or an eviction (R133). None when the need fails. DESIGN CHOICE (log 46): a
DEVICE_QUERY of the record evicted runs on, as R133 speaks of no transaction but the release ASSIGN. -/
def State.makeRoom (s : State) : Option State :=
  match freeIndex s.devs.table with
  | some _ => some s
  | none => s.victim.map fun d => (s.giveUp d.serial).removeDevice d.serial

/-! ## Placement (R134) -/

/-- A LINK request or entry that is withdrawn is answered ABORTED (R157). -/
def State.answerAborted (slot : Option Nat) (s : State) : State :=
  match slot with
  | some i => s.completeSlot i .aborted []
  | none => s

/-- A waiting or table transaction of a serial that R134 and R139 end; release ASSIGNs are left to run (log 25). -/
def Request.abandoned (n : Serial) (req : Request) : Bool :=
  req.subject = n && req.releaseAddr.isNone && !(req.origin = .valve)

/-- An entry of a record that is placed again or retired: DISCOVERY and POLL are withdrawn while QUEUED and detached
while running; LINK is withdrawn and answered ABORTED while QUEUED, and a running DEVICE_QUERY records nothing
(R134, R139). -/
def State.abandonEntry (n : Serial) (i : Nat) (s : State) : State :=
  match s.entry? i with
  | some e =>
    if e.subject = n && e.releaseAddr.isNone && !(e.origin = .valve) && !(e.state = .free) then
      if e.state = .queued then
        if e.origin = .link && !e.detached then (s.freeEntry i).answerAborted e.slot else s.freeEntry i
      else if e.origin = .link then s.modEntry i fun x => { x with silent := true }
      else s.modEntry i Entry.detach
    else s
  | none => s

/-- The transactions of a record that is placed again or retired (R134, R139). DESIGN CHOICE (log 52): the waiting LINK
requests are answered first, and then the entries are taken in ascending index. -/
def State.abandon (n : Serial) (s : State) : State :=
  let links := (s.sched.waits.filter fun w => w.req.abandoned n && w.req.origin = .link).map (·.req.slot)
  ((s.dropWaits (Request.abandoned n)).forEach links State.answerAborted).forEach (List.range 16) (State.abandonEntry n)

/-- Step 4 of R134: a READY or IDENTIFYING record is taken out of its address, which is free at once, and each admitted
run of a zone that waters through the device meets a close failure (R65), in queue order (log 44). DESIGN CHOICE (log 26):
the unreachable flags are derived first (R10), so that the notices of the close failures carry them. -/
def State.displace (n : Serial) (s : State) : State :=
  let t := (s.abandon n).modDevice n fun d => { d with state := .unplaced, shortAddr := none }
  let t := (t.rederiveAll).removePoll n
  t.lostRuns ((t.runsNaming n).filter t.hasAdmitted)

/-- An UNPLACED record becomes PLACING, and its ASSIGN is handed out (R134). -/
def State.startPlacing (n : Serial) (s : State) : State :=
  match s.freeAddr with
  | some addr =>
    (s.modDevice n fun d => { d with state := .placing, shortAddr := some addr }).ask (assignRequest n addr)
  | none => s

/-- A serial without a record when no record can be evicted (R134). -/
def State.overflow (n : Serial) (s : State) : State :=
  if s.devs.overflowReported then s
  else (s.mapDevs fun m => { m with overflowReported := true }).deviceEvent .overflow n

/-- A serial received in an announce window is placed (R134). DEDUCED (log 57): R134 gives no step for a record that is
PLACING, which no window can find; it is left as it is. -/
def State.place (n : Serial) (s : State) : State :=
  match s.device? n with
  | some d =>
    if d.duplicate || d.kindMismatch then s
    else
      match d.state with
      | .ready | .identifying => (s.displace n).startPlacing n
      | .unplaced => s.startPlacing n
      | .placing => s
  | none =>
    match s.makeRoom with
    | some t => (t.createDevice n false 15).startPlacing n
    | none => s.overflow n

/-- No record is PLACING (R131). -/
def State.nonePlacing (s : State) : Bool := s.devices.all fun d => !(d.state = .placing)

/-- A window is in progress: its INVITE has an entry, or waits for one (R131, R146, R147). -/
def State.windowOpen (s : State) : Bool :=
  (s.sched.entries.any fun e => !(e.state = .free) && e.op = .invite) || s.sched.waits.any (·.req.op = .invite)

/-- The completion of an announce window: next_window is set on (R131). -/
def State.windowDone (s : State) : State :=
  let gap := if s.line.state = .sweeping || s.devs.sweepEnd.isSome then 200 else 5000
  s.mapDevs fun m => { m with nextWindow := some (s.timeBase + gap), lastWindowAt := some s.timeBase }

end Sys2Proof.Machine
end

