-- ==== Sys2Proof/Machine/Completion.lean ====
section
/-!
DEFINITION. What the completion of a field transaction does to the block that asked for it (R151): actuations, polls,
placement and identification, and the forwarded requests.
-/
namespace Sys2Proof.Machine

/-! ## Actuations (R52) -/

/-- An OPEN completes with OK (R54). -/
def State.openOk (z : Nat) (ref : Ref) (s : State) : State :=
  let t := s.modRecord z fun rec => { rec.setOutput ref .opened with inFlight := none }
  match t.run? z, t.record? z with
  | some r, some rec =>
    if r.closePending || r.state = .closing then t.closeAfterOpen z none
    else if (rec.first .notSent .notSent).isSome then t.handOpen z
    else t.enterOpen z
  | _, _ => t

/-- An OPEN completes with a coil status (R63). -/
def State.coilFault (z : Nat) (ref : Ref) (reason : FaultReason) (s : State) : State :=
  (s.modRecord z fun rec => { rec.setOutput ref .closed with inFlight := none }).closeAfterOpen z (some (.fault reason))

/-- A CLOSE completes with OK (R58). -/
def State.closeOk (z : Nat) (ref : Ref) (s : State) : State :=
  (s.modRecord z fun rec => { rec.setOutput ref .closed with inFlight := none }).handClose z

/-- The output whose actuation an entry carries: the one of its record that is OPEN_SENT or CLOSE_SENT. A COLLECT carries
no payload, so the output is read from the record (R152). A completion whose record has been dropped is discarded (R52). -/
def State.actuated (s : State) (i : Nat) (e : Entry) : Option Ref :=
  match s.record? e.zone with
  | some rec => if rec.inFlight = some (i, e.gen) then rec.first .openSent .closeSent else none
  | none => none

/-- A completion of origin VALVE, by the table of R52. -/
def State.valveDone (i : Nat) (e : Entry) (c : Completion) (s : State) : State :=
  match s.actuated i e with
  | some ref =>
    match e.asked, c with
    | .opn, .ok _ => s.openOk e.zone ref
    | .opn, .fault .coilOpen => s.coilFault e.zone ref .coilOpen
    | .opn, .fault .coilShort => s.coilFault e.zone ref .coilShort
    | _, .aborted => s
    | .opn, _ => s.openFailed e.zone ref
    | .close, .ok _ => s.closeOk e.zone ref
    | .close, _ => s.stuckPath e.zone
    | _, _ => s
  | none => s

/-! ## Readings (R118 to R120) -/

/-- A channel record takes a reading at an uptime (R118, R119). -/
def Channel.take (now interval : Nat) (raw : Option Nat) (quality : Quality) (wetness : Option Nat) (c : Channel) :
    Channel :=
  { c with lastRaw := raw, lastWetness := wetness, readingAt := some now, quality := quality, fresh := true,
           staleAt := some (now + 3 * interval * 60) }

/-- A channel record takes its reading from a MEASURE answer (R118). -/
def Channel.measure (now interval : Nat) (payload : List Byte) (c : Channel) : Channel :=
  let raw := rawOf payload c.channel
  let judged := judgeReading c.dry c.wet raw (faultOf payload c.channel)
  c.take now interval (some raw) judged.1 judged.2

/-- A channel record takes a reading of quality SENSOR_FAULT; last_raw and last_wetness become absent (R123). -/
def Channel.fail (now interval : Nat) (c : Channel) : Channel := c.take now interval none .sensorFault none

/-- The poll interval of a probe's device record, in minutes (R119). -/
def State.interval (s : State) (n : Serial) : Nat :=
  match s.device? n with
  | some d => d.pollInterval
  | none => 15

/-- Every channel record of a probe takes its reading, in channel order, before any is reported (R120). -/
def State.storeReadings (n : Serial) (f : Channel → Channel) (s : State) : State :=
  s.forEach (s.heldChannels n) fun ch t => t.modChannel n ch f

/-- The records that took a reading are reported, in channel order (R120). -/
def State.reportReadings (n : Serial) (s : State) : State :=
  s.forEach (s.heldChannels n) fun ch t => t.reportChannel n ch

/-- The readings a completion brings are stored: those of an OK, SENSOR_FAULT for that status, none for the others
(R123, R126). -/
def State.takeReadings (n : Serial) (c : Completion) (s : State) : State :=
  match c with
  | .ok payload => s.storeReadings n (Channel.measure s.uptime (s.interval n) payload)
  | .fault .sensorFault => s.storeReadings n (Channel.fail s.uptime (s.interval n))
  | _ => s

/-- A completion brings readings (R123, R126). -/
def Completion.brings : Completion → Bool
  | .ok _ | .fault .sensorFault => true
  | _ => false

/-! ## Polls (R123, R124) -/

/-- The poll record that an entry's poll belongs to; a completion that finds none is discarded (R121). -/
def State.holdsPoll (s : State) (i : Nat) (e : Entry) : Bool :=
  match s.poll? e.subject with
  | some r => r.state = .inFlight && r.entry = some (i, e.gen)
  | none => false

/-- The poll record is WAITING again, with next_poll an interval after the completion (R123). -/
def State.nextPoll (n : Serial) (s : State) : State :=
  (s.modPoll n fun r =>
    { r with state := .waiting, nextPoll := some (s.uptime + s.interval n * 60), dueSince := none,
             entry := none }).wantQuiet

/-- A completion of origin POLL, by the table of R123. -/
def State.pollDone (n : Serial) (c : Completion) (s : State) : State :=
  match c with
  | .aborted | .withdrawn => s
  | _ =>
    let t := (s.takeReadings n c).nextPoll n
    if c.brings then t.reportReadings n else t

/-- The Device Manager's miss count of a completion of origin POLL or VALVE (R140). -/
def State.countAnswer (n : Serial) (c : Completion) (s : State) : State :=
  match c with
  | .ok _ | .fault _ => s.clearMiss n
  | .timeout _ | .contention => s.addMiss n
  | .aborted | .withdrawn => s

/-! ## Placement and identification (R135 to R137) -/

/-- An ASSIGN that gives an address completes (R135). -/
def State.assignDone (n : Serial) (c : Completion) (s : State) : State :=
  match c with
  | .ok _ =>
    match s.addrOf n with
    | some addr =>
      (s.modDevice n fun d => { d with state := .identifying }).ask (deviceRequest .discovery none .identify n addr)
    | none => s
  | .timeout 3 =>
    ((s.modDevice n fun d => { d with duplicate := true }).unplace n).deviceEvent .duplicate n
  | .aborted => s
  | _ => s.unplace n

/-- A release ASSIGN completes: the address is free once its frame has been sent (R130, log 24). -/
def State.releaseDone (addr : Nat) (c : Completion) (s : State) : State :=
  match c with
  | .ok _ => s.mapDevs fun m => { m with releasing := m.releasing.erase addr }
  | _ => s

/-- An IDENTIFY of placement completes (R136). -/
def State.identifyDone (n : Serial) (c : Completion) (s : State) : State :=
  match c with
  | .ok payload =>
    let d := identityOf payload
    if !d.valid then s.unplace n
    else if s.mismatch n d then
      ((s.modDevice n fun q => { q with kindMismatch := true }).unplace n).postMismatch n d
    else
      let t := s.recordIdentity n d
      match t.device? n with
      | some q =>
        match q.enrolled && q.kind = .probe, q.shortAddr with
        | true, some addr => t.ask (deviceRequest .discovery none .readCal n addr)
        | _, _ => t.becomeReady n
      | none => t
  | .aborted => s
  | _ => s.unplace n

/-- A record of an enrolled probe, which alone has channel records (R114). -/
def Device.sensed (d : Device) : Bool := d.enrolled && d.kind = .probe

/-- A READ_CAL of placement or enrolment completes (R137). A record that a DEVICE_QUERY has made a decoder in the meantime
takes up no channel (R114). -/
def State.readCalDone (n : Serial) (c : Completion) (s : State) : State :=
  match c with
  | .ok payload =>
    match s.device? n with
    | some d => (if d.sensed then s.takeUp n (d.count.getD 0) payload else s).becomeReady n
    | none => s
  | .aborted => s
  | _ => s.unplace n

/-- The state of the device record of a serial. -/
def State.deviceState (s : State) (n : Serial) : Option DeviceState := (s.device? n).map (·.state)

/-- A completion of origin DISCOVERY. An INVITE that completes with CONTENTION leaves the floor and sets the next window
(R131). -/
def State.discoveryDone (e : Entry) (c : Completion) (s : State) : State :=
  match e.asked with
  | .invite => if c = .contention then s.windowDone else s
  | .assign =>
    match e.releaseAddr with
    | some addr => s.releaseDone addr c
    | none => if s.deviceState e.subject = some .placing then s.assignDone e.subject c else s
  | .identify => if s.deviceState e.subject = some .identifying then s.identifyDone e.subject c else s
  | .readCal => if s.deviceState e.subject = some .identifying then s.readCalDone e.subject c else s
  | _ => s

/-! ## Forwarded requests (R126, R144, R157) -/

/-- The reply of a completion that is not OK (R157). -/
def State.answerFailure (slot : Nat) (c : Completion) (s : State) : State :=
  match c with
  | .ok _ => s
  | .fault st => s.completeSlot slot .deviceError [u8 st.code]
  | .timeout _ => s.completeSlot slot .timeout []
  | .contention => s.completeSlot slot .contention []
  | .aborted | .withdrawn => s.completeSlot slot .aborted []

/-- The result of a PROBE_READ for the channel asked for, read from the records after they took the reading (R126). -/
def State.probeResult (s : State) (n : Serial) (ch : Nat) (payload : List Byte) : List Byte :=
  u16 (rawOf payload ch) ++
    match s.channel? n ch with
    | some c => opt16 c.lastWetness ++ [u8 c.quality.code]
    | none => opt16 none ++ [u8 Quality.none.code]

/-- A PROBE_READ completes (R126); its reply is formed before the readings are reported to the zones (log 31). -/
def State.probeReadDone (slot : Nat) (n : Serial) (ch : Nat) (c : Completion) (s : State) : State :=
  let t := s.takeReadings n c
  let t := match c with
    | .ok payload => t.completeSlot slot .ok (t.probeResult n ch payload)
    | _ => t.answerFailure slot c
  if c.brings then t.reportReadings n else t

/-- Kind, model and count in the reply of a DEVICE_QUERY. -/
def Identity.bytes (d : Identity) : List Byte := [u8 d.kind.code, u8 d.model, u8 d.count]

/-- The dry and wet points of channels 1..count in the reply of a DEVICE_QUERY. -/
def pointBytes (payload : List Byte) (count : Nat) : List Byte :=
  (List.range' 1 count).flatMap fun ch => u16 (pointsOf payload ch).1 ++ u16 (pointsOf payload ch).2

/-- The points of a probe whose READ_CAL is not asked for, sent absent (log 16). -/
def absentPoints (count : Nat) : List Byte := (List.replicate count (opt16 none ++ opt16 none)).flatten

/-- The identity a query reports is recorded, or KIND_MISMATCH is posted (R144). DESIGN CHOICE (log 45): the records above
a smaller count are freed here, with the count, and not first when the READ_CAL has completed. -/
def State.recordQuery (n : Serial) (d : Identity) (s : State) : State :=
  match s.device? n with
  | some q =>
    if s.mismatch n d then s.postMismatch n d
    else
      let t := s.recordIdentity n d
      let t := if d.kind = .decoder then t.removePoll n else t
      if q.enrolled && d.kind = .probe then t.freeAbove n d.count else t
  | none => s

/-- The READ_CAL of a DEVICE_QUERY follows under the same slot (R144). -/
def State.queryReadCal (slot : Nat) (n : Serial) (addr : Nat) (d : Identity) (s : State) : State :=
  (s.mapLink fun l => { l with slots := l.slots.modify slot fun x => { x with found := some d } }).ask
    (deviceRequest .link (some slot) .readCal n addr)

/-- The IDENTIFY of a DEVICE_QUERY completes with OK (R144). An identity that R136 would not take is recorded nowhere and
reported with kind UNKNOWN (log 15). DESIGN CHOICE (log 16): a query that must record nothing (R134, R139) posts no
KIND_MISMATCH either, and a probe's points are absent in its reply. DESIGN CHOICE (log 31): the reply to a decoder is formed
before the notices of what is recorded, and a probe's KIND_MISMATCH is posted before its reply, which waits for the
READ_CAL. DESIGN CHOICE (log 63): a query whose record has been lost by misses (R140), or identified anew by ENROL, records
in the record as it then stands, and its READ_CAL goes to the address of the IDENTIFY. -/
def State.queryIdentified (slot : Nat) (e : Entry) (d : Identity) (s : State) : State :=
  if !d.valid then s.completeSlot slot .ok ({ d with kind := .unknown } : Identity).bytes
  else if e.silent then
    s.completeSlot slot .ok (d.bytes ++ if d.kind = .probe then absentPoints d.count else [])
  else if d.kind = .probe then (s.recordQuery e.subject d).queryReadCal slot e.subject e.address d
  else (s.completeSlot slot .ok d.bytes).recordQuery e.subject d

/-- The calibration a query has read is handed to the Poller for an enrolled probe, which is given a poll record if it is
READY and holds none (R144, R121). The channels are those of the record that the answer speaks of: after a mismatch the
record keeps its own count, and no channel of it is freed (log 32). A record that has left READY in the meantime takes the
points and no poll record (DESIGN CHOICE, log 63). -/
def State.recordPoints (n : Serial) (d : Identity) (payload : List Byte) (s : State) : State :=
  match s.device? n with
  | some q =>
    if q.sensed then
      let t := s.givePoints n (min d.count (q.count.getD 0)) payload
      if q.state = .ready then t.makePoll n else t
    else s
  | none => s

/-- A transaction of a DEVICE_QUERY completes (R144). DESIGN CHOICE (log 31): the reply is formed before the calibration
reaches the channel records and the zones. -/
def State.queryDone (slot : Nat) (found : Option Identity) (e : Entry) (c : Completion) (s : State) : State :=
  match c with
  | .ok payload =>
    match e.asked, found with
    | .identify, _ => s.queryIdentified slot e (identityOf payload)
    | .readCal, some d =>
      let t := s.completeSlot slot .ok (d.bytes ++ pointBytes payload d.count)
      if e.silent then t else t.recordPoints e.subject d payload
    | _, _ => s
  | _ => s.answerFailure slot c

/-- A completion of origin LINK goes to its Pending Slot (R157); a slot that is no longer WAITING has been released. -/
def State.linkDone (e : Entry) (c : Completion) (s : State) : State :=
  match e.slot with
  | some i =>
    match s.waitingSlot? i with
    | some slot =>
      match slot.kind with
      | .probeRead => s.probeReadDone i e.subject slot.channel c
      | .deviceQuery => s.queryDone i slot.found e c
    | none => s
  | none => s

/-! ## The hand-off (R151) -/

/-- A completion is handed to the origin, and for POLL and VALVE then to the Device Manager (R151). -/
def State.handOff (i : Nat) (e : Entry) (c : Completion) (s : State) : State :=
  match e.origin with
  | .valve => (s.valveDone i e c).countAnswer e.subject c
  | .poll => if s.holdsPoll i e then (s.pollDone e.subject c).countAnswer e.subject c else s
  | .discovery => s.discoveryDone e c
  | .link => s.linkDone e c

/-- A transaction ends: its entry is freed and granted, then its completion is handed on; a detached entry's is discarded
(R151). -/
def State.complete (i : Nat) (c : Completion) (s : State) : State :=
  match s.entry? i with
  | some e => if e.detached then s.freeEntry i else (s.freeEntry i).handOff i e c
  | none => s

end Sys2Proof.Machine
end

