-- ==== Sys2Proof/Machine/LineOps.lean ====
section
/-!
DEFINITION. The Field Line Interface: the line states and the loss of power, the quiet test, the start of a frame and the
end of a turn; and what every command that acts on the part ends with (chapters 9 and 10).
-/
namespace Sys2Proof.Machine

/-! ## Line states (R159, R160, R162) -/

/-- The line enters a state and posts LINE_EVENT with the cause (R159). -/
def State.enterLine (st : LineState) (stateEnd : Option Nat) (cause : LineCause) (s : State) : State :=
  (s.mapLine fun l => { l with state := st, stateEnd := stateEnd }).post (.lineEvent st s.line.state cause)

/-- The line enters RISING: the floor becomes 0, overflow_reported no, and next_window absent (R131). -/
def State.enterRising (cause : LineCause) (s : State) : State :=
  (s.enterLine .rising (some (s.timeBase + 2000)) cause).mapDevs fun m =>
    { m with floor := 0#32, overflowReported := false, nextWindow := none }

/-- The next window comes 5 s on, unless a requested sweep runs (R131). -/
def State.windowAfterOn (s : State) : State :=
  if s.devs.sweepEnd.isSome then s else s.mapDevs fun m => { m with nextWindow := some (s.timeBase + 5000) }

/-- A timer of the time base has fallen due. -/
def State.due (s : State) (t : Option Nat) : Bool :=
  match t with
  | some x => x ≤ s.timeBase
  | none => false

/-- A timer of uptime has fallen due. -/
def State.duePlan (s : State) (t : Option Nat) : Bool :=
  match t with
  | some x => x ≤ s.uptime
  | none => false

/-! ## Loss of power (R141, R158, R160) -/

/-- An entry ends with ABORTED; only a LINK origin acts on it (R158). -/
def State.abortEntry (i : Nat) (s : State) : State :=
  match s.entry? i with
  | some e =>
    if e.state = .free then s
    else
      let t := s.modEntry i fun x => Entry.blank x.gen
      if e.origin = .link && !e.detached then t.answerAborted e.slot else t
  | none => s

/-- Every transaction and every waiting request ends with ABORTED, in index order (R158). -/
def State.abortAll (s : State) : State :=
  let t := s.forEach (List.range 16) State.abortEntry
  let links := (t.sched.waits.filter (·.req.origin = .link)).map (·.req.slot)
  (t.mapSched fun c => { c with waits := [] }).forEach links State.answerAborted

/-- The Device Manager and the Poller at the loss of line power (R141, R121). -/
def State.loseDevices (s : State) : State :=
  (((s.mapDevs fun m =>
    { m with
      table := m.table.map fun o => o.map fun d => { d with state := .unplaced, shortAddr := none, missCount := 0 },
      releasing := [], sweepEnd := none }).mapPoller fun p => { p with polls := [] }).wantQuiet).rederiveAll

/-- What the loss of power does to the Scheduler, the Sequencer, the Arbiter, the Device Manager and the Poller
(R160, log 27). -/
def State.loseNeighbours (s : State) : State :=
  ((s.abortAll.loseLineRuns).loseDevices).mapSeqr fun q => { q with spacingEnd := none }

/-- The line loses power: it enters OFF or FAULT from a powered state (R160). -/
def State.losePower (st : LineState) (stateEnd : Option Nat) (cause : LineCause) (s : State) : State :=
  ((s.mapLine fun l =>
    { l with foreignBusy := false, foreignLimit := none, guardEnd := none, reservation := none, turn := none }).enterLine
      st stateEnd cause).loseNeighbours.discardWindow

/-! ## Quiet (R164) -/

/-- No poll falls due within 2 minutes (R121). -/
def State.noPollSoon (s : State) : Bool :=
  s.poller.polls.all fun r =>
    r.state = .waiting &&
      match r.nextPoll with
      | some t => s.uptime + 120 < t
      | none => false

/-- The five conditions of R164. -/
def State.mayQuiet (s : State) : Bool :=
  s.line.quietAllowed && s.arb.runs.isEmpty && s.sched.entries.all (·.state = .free) && s.sched.waits.isEmpty &&
    s.noPollSoon && s.devs.sweepEnd.isNone

/-- The quiet test (R164). The line leaving ON marks the flow window discarded (R77, log 43). -/
def State.quietTest (s : State) : State :=
  if s.line.state = .on && s.mayQuiet then
    (s.mapLine fun l => { l with state := .quiet, stateEnd := none }).discardWindow
  else s

/-! ## Frames and turns (R148, R149, R169) -/

/-- A frame of ours starts: the entry is SENT and the reservation is gone (R148, R169). -/
def State.startFrame (i : Nat) (s : State) : State :=
  (s.modEntry i fun e => { e with state := .sent }).mapLine fun l =>
    { l with reservation := none,
             turn := some { entry := i, startedAt := s.timeBase, phase := .sending, waitEnd := none,
                            replyLimit := none } }

/-- The Scheduler's choice: started when the line is free, and held as the reservation while foreign traffic is on the
line or a guard runs (R148, R169). DESIGN CHOICE (log 55): no choice is made and no reservation is held while a turn of
ours runs, the guard of our own stop condition included. -/
def State.serveLine (s : State) : State :=
  match s.line.turn with
  | some _ => s
  | none =>
    match s.choice with
    | some i =>
      if s.line.foreignBusy || s.line.guardEnd.isSome then s.mapLine fun l => { l with reservation := some i }
      else s.startFrame i
    | none => s.mapLine fun l => { l with reservation := none }

/-- What ends every command that acts on the part: the admission scan and the quiet test that the event asked for, and
the choice of the next frame (R34, R148, R164, logs 5, 6 and 7). -/
def State.finish (s : State) : State :=
  let s := if s.todo.scan then s.scan else s
  let s := if s.todo.quiet then (s.mapTodo fun d => { d with quiet := false }).quietTest else s
  s.serveLine

/-- Our turn ends. A frame not ours that began in it and is still on the cable sets foreign_busy from now on, so that our
next frame waits for its stop condition and the guard (R167, R169, log 28). -/
def State.endTurn (s : State) : State :=
  s.mapLine fun l => { l with turn := none, foreignBusy := l.foreignBusy || l.foreignLimit.isSome }

/-- A stop condition not of our own: it ends a foreign frame and starts the guard (R169). -/
def State.stopHeard (s : State) : State :=
  s.mapLine fun l => { l with foreignBusy := false, foreignLimit := none, guardEnd := some (s.timeBase + 6) }

/-- The stop condition of a frame that did not end our turn: the wait for a reply goes on (log 28). -/
def State.resumeWait (s : State) : State :=
  s.mapLine fun l => { l with turn := l.turn.map fun t => { t with replyLimit := none } }

/-- An attempt ends without an answer (R153). -/
def State.endAttempt (i : Nat) (bad : Bool) (s : State) : State :=
  match s.entry? i with
  | some e =>
    let checks := e.badChecks + if bad then 1 else 0
    if e.noRetry || 3 ≤ e.attempts + 1 then s.endTurn.complete i (.timeout checks)
    else
      s.endTurn.modEntry i fun x => { x with state := .queued, attempts := x.attempts + 1, badChecks := checks }
  | none => s.endTurn

/-- The result of an announce window whose slot has ended (R131, R155): the INVITE's entry is freed, the floor follows
the result, and the next window is set; a serial goes to placement. A serial of 0 cannot be received (log 11). -/
def State.inviteDone (i : Nat) (result : AnnounceResult) (s : State) : State :=
  let t := (s.endTurn.freeEntry i).windowDone
  match result with
  | .serial n => if n = 0#32 then t else (t.mapDevs fun m => { m with floor := n }).place n
  | .empty => t.mapDevs fun m => { m with floor := 0#32 }
  | .failed => t

end Sys2Proof.Machine
end

