-- ==== Sys2Proof/Machine/Requests.lean ====
section
/-!
DEFINITION. How the owner of a host request answers it (R175): a refusal queues a reply and changes nothing else; an
accepted request queues its reply, takes its effect and ends as every acting command does.
-/
namespace Sys2Proof.Machine

/-- A refused request: its reply carries the status alone (R175). -/
def State.refuse (kind tag : Byte) (status : ReplyStatus) (s : State) : State := s.reply kind tag status []

/-- A request that only reads: its reply carries the result. -/
def State.answer (kind tag : Byte) (result : List Byte) (s : State) : State := s.reply kind tag .ok result

/-- An accepted request: the reply, the effect, and the end of the event. -/
def State.accept (kind tag : Byte) (result : List Byte) (effect : State → State) (s : State) : State :=
  (effect (s.reply kind tag .ok result)).finish

/-- An accepted request whose reply tells what the effect leaves. -/
def State.acceptThen (kind tag : Byte) (result : State → List Byte) (effect : State → State) (s : State) : State :=
  (s.replyThen kind tag result effect).finish

/-- A forwarded request that has passed its owner's tests needs a Pending Slot (R176): TAG_IN_USE, BUSY, or the
lowest-numbered FREE slot, under whose number the transaction is asked for. -/
def State.forward (reqKind tag : Byte) (kind : ForwardKind) (channel : Nat) (transaction : Nat → Request) (s : State) :
    State :=
  if s.link.slots.any fun x => !(x.state = .free) && x.tag = tag then s.refuse reqKind tag .tagInUse
  else
    match s.link.slots.findIdx? (·.state = .free) with
    | none => s.refuse reqKind tag .busy
    | some i =>
      let slot : Slot :=
        { state := .waiting, kind := kind, tag := tag, reply := none, channel := channel, found := none }
      ((s.mapLink fun l => { l with slots := l.slots.set i slot }).ask (transaction i)).finish

end Sys2Proof.Machine
end

