-- ==== Sys2Proof/Machine/DeviceCommands.lean ====
section
/-!
DEFINITION. The commands of the Device Manager and of the Sensor Poller (chapters 7 and 8).
-/
namespace Sys2Proof.Machine

/-! ## Listing (R142) -/

/-- The flags byte of a device record: bit 0 duplicate, bit 1 kind_mismatch (section 11.9). -/
def Device.flags (d : Device) : Byte := u8 ((if d.duplicate then 1 else 0) + (if d.kindMismatch then 2 else 0))

/-- One entry of a DEVICE_LIST page (section 11.9). -/
def Device.listBytes (d : Device) : List Byte :=
  u32 d.serial ++ [u8 d.kind.code, u8 d.state.code, flagByte d.enrolled, opt8 d.shortAddr, d.flags, u8 d.missCount]

/-- DEVICE_LIST. -/
def State.deviceListRequest (tag : Byte) (p : List Byte) (s : State) : State :=
  s.frameTaken 0x16#8 tag (p.length = 1) fun s =>
    let page := byteAt p 0
    if 4 < page then s.refuse 0x16#8 tag .badField
    else
      s.answer 0x16#8 tag
        (u8 s.devices.length :: ((s.devices.drop (8 * page)).take 8).flatMap Device.listBytes)

/-- The channel part of a DEVICE_GET reply: held, last_wetness, quality, fresh (section 11.9, log 40). -/
def channelBytes (c : Option Channel) : List Byte :=
  match c with
  | some c => [flagByte true] ++ opt16 c.lastWetness ++ [u8 c.quality.code, flagByte c.fresh]
  | none => [flagByte false] ++ opt16 none ++ [u8 Quality.none.code, flagByte false]

/-- The result of DEVICE_GET after its status byte (section 11.9). -/
def State.deviceBytes (s : State) (d : Device) : List Byte :=
  u32 d.serial ++
    [u8 d.kind.code, opt8 d.model, opt8 d.count, opt8 d.shortAddr, u8 d.state.code, flagByte d.enrolled, d.flags,
      u8 d.missCount, u8 d.pollInterval] ++
    if d.kind = .probe then
      (List.range' 1 (d.count.getD 0)).flatMap fun ch => channelBytes (s.channel? d.serial ch)
    else []

/-- DEVICE_GET. -/
def State.deviceGetRequest (tag : Byte) (p : List Byte) (s : State) : State :=
  s.frameTaken 0x17#8 tag (p.length = 4) fun s =>
    match s.device? (u32At p 0) with
    | some d => s.answer 0x17#8 tag (s.deviceBytes d)
    | none => s.refuse 0x17#8 tag .noDevice

/-! ## Enrolment and retirement (R138, R139) -/

/-- The poll interval of an ENROL: 0 asks for the default (R138). -/
def enrolInterval (n : Nat) : Nat := if n = 0 then 15 else n

/-- ENROL reaches a record: enrolled set, poll_interval replaced, both flags cleared (R138). -/
def Device.enrol (interval : Nat) (d : Device) : Device :=
  { d with enrolled := true, pollInterval := interval, duplicate := false, kindMismatch := false }

/-- ENROL has come to a READY probe: it becomes IDENTIFYING and a READ_CAL is handed out (R138). -/
def State.recalibrate (n : Serial) (s : State) : State :=
  let t := ((s.modDevice n fun d => { d with state := .identifying }).rederiveAll).removePoll n
  match t.addrOf n with
  | some addr => t.ask (deviceRequest .discovery none .readCal n addr)
  | none => t

/-- ENROL reaches the record of its serial (R138). DEDUCED (log 53): a READY probe is identified anew whether or not it was
enrolled before, since R116 counts the ENROL of a READY probe among the identifications of a probe that already holds
records, which only an enrolled one does (R114). DESIGN CHOICE (log 63): a DEVICE_QUERY of the probe goes on. -/
def State.enrolRecord (d : Device) (interval : Nat) (s : State) : State :=
  let t := s.modDevice d.serial (Device.enrol interval)
  if d.state = .ready && d.kind = .probe then t.recalibrate d.serial else t

/-- The result of ENROL: the record's state, and whether the request made it (section 11.9). -/
def State.enrolBytes (s : State) (n : Serial) (made : Bool) : List Byte :=
  [opt8 ((s.device? n).map (·.state.code)), flagByte made]

/-- ENROL. -/
def State.enrolRequest (tag : Byte) (p : List Byte) (s : State) : State :=
  s.frameTaken 0x18#8 tag (p.length = 5) fun s =>
    let n := u32At p 0
    let interval := byteAt p 4
    if n = 0#32 || 120 < interval then s.refuse 0x18#8 tag .badField
    else
      match s.device? n with
      | some d =>
        s.acceptThen 0x18#8 tag (fun t => t.enrolBytes n false) (State.enrolRecord d (enrolInterval interval))
      | none =>
        if s.makeRoom.isNone then s.refuse 0x18#8 tag .conflict
        else
          s.acceptThen 0x18#8 tag (fun t => t.enrolBytes n true) fun s =>
            (s.makeRoom.getD s).createDevice n true (enrolInterval interval)

/-- A record is retired, in the four steps of R139. -/
def State.retire (n : Serial) (s : State) : State :=
  ((((s.abandon n).giveUp n).freeAbove n 0).removePoll n).removeDevice n

/-- RETIRE. -/
def State.retireRequest (tag : Byte) (p : List Byte) (s : State) : State :=
  s.frameTaken 0x19#8 tag (p.length = 4) fun s =>
    let n := u32At p 0
    if (s.device? n).isNone then s.refuse 0x19#8 tag .noDevice
    else if s.zones.any (Zone.names n) then s.refuse 0x19#8 tag .conflict
    else s.accept 0x19#8 tag [] (State.retire n)

/-! ## Sweeps and windows (R131, R132) -/

/-- A requested sweep: sweep_end 10 s on; the windows follow each other 200 ms apart from now on (R132, log 23). -/
def State.startSweep (s : State) : State :=
  let soon := max s.timeBase (s.devs.lastWindowAt.getD s.timeBase + 200)
  s.mapDevs fun m => { m with sweepEnd := some (s.uptime + 10), nextWindow := m.nextWindow.map (min soon) }

/-- SWEEP. -/
def State.sweepRequest (tag : Byte) (p : List Byte) (s : State) : State :=
  s.frameTaken 0x1A#8 tag (p.length = 0) fun s =>
    if s.line.state = .on then s.accept 0x1A#8 tag [] State.startSweep else s.refuse 0x1A#8 tag .conflict

/-- The requested sweep ends: the next window is set 5 s after the completion of the last (R132, log 23). -/
def State.endSweep (s : State) : State :=
  (s.mapDevs fun m =>
    { m with sweepEnd := none,
             nextWindow := m.nextWindow.map fun _ => m.lastWindowAt.getD s.timeBase + 5000 }).wantQuiet

/-- SWEEP_END (R132). -/
def execSweepEnd (s : State) : Host.Outcome State Fault Refusal :=
  .next (if s.duePlan s.devs.sweepEnd then s.endSweep.finish else s)

/-- The conditions under which a window that has fallen due begins (R131). DEDUCED (log 57): windows are held one at a time,
since they follow each other's completion (R132) and none is held while a record is PLACING. -/
def State.windowReady (s : State) : Bool :=
  s.due s.devs.nextWindow && (s.line.state = .sweeping || s.line.state = .on) && s.nonePlacing && !s.windowOpen

/-- ANNOUNCE_WINDOW_DUE: the INVITE carries the floor as it stands (R131). -/
def execAnnounceWindowDue (s : State) : Host.Outcome State Fault Refusal :=
  .next (
    if s.windowReady then
      ((s.mapDevs fun m => { m with nextWindow := none }).ask (inviteRequest s.devs.floor)).finish
    else s)

/-! ## Forwarded requests (R125, R143) -/

/-- The line is not usable for a forwarded request (R125, R143). -/
def State.lineDown (s : State) : Bool := !(s.line.state = .on || s.line.state = .quiet)

/-- The tests of R125, in order. -/
def State.probeReadRefusal (s : State) (n : Serial) (ch : Nat) : Option ReplyStatus :=
  if ch = 0 || 3 < ch then some .badField
  else
    match s.device? n with
    | none => some .noDevice
    | some d =>
      if !(d.kind = .probe && d.enrolled) then some .notEnrolled
      else if !(d.state = .ready) then some (if s.lineDown then .lineDown else .conflict)
      else if d.count.getD 0 < ch then some .badField
      else none

/-- PROBE_READ. -/
def State.probeReadRequest (tag : Byte) (p : List Byte) (s : State) : State :=
  s.frameTaken 0x1B#8 tag (p.length = 5) fun s =>
    let n := u32At p 0
    let ch := byteAt p 4
    match s.probeReadRefusal n ch with
    | some st => s.refuse 0x1B#8 tag st
    | none =>
      s.forward 0x1B#8 tag .probeRead ch fun i =>
        deviceRequest .link (some i) .measure n ((s.addrOf n).getD 0)

/-- The tests of R143, in order. -/
def State.deviceQueryRefusal (s : State) (n : Serial) : Option ReplyStatus :=
  match s.device? n with
  | none => some .noDevice
  | some d => if !(d.state = .ready) then some (if s.lineDown then .lineDown else .conflict) else none

/-- DEVICE_QUERY. -/
def State.deviceQueryRequest (tag : Byte) (p : List Byte) (s : State) : State :=
  s.frameTaken 0x1C#8 tag (p.length = 4) fun s =>
    let n := u32At p 0
    match s.deviceQueryRefusal n with
    | some st => s.refuse 0x1C#8 tag st
    | none =>
      s.forward 0x1C#8 tag .deviceQuery 0 fun i =>
        deviceRequest .link (some i) .identify n ((s.addrOf n).getD 0)

/-! ## The Poller's timers (R119, R122) -/

/-- POLL_DUE: a WAITING poll that has fallen due asks for its MEASURE (R122). -/
def execPollDue (n : Serial) (s : State) : Host.Outcome State Fault Refusal :=
  .next (
    match s.poll? n, s.addrOf n with
    | some r, some addr =>
      if r.state = .waiting && s.duePlan r.nextPoll then
        (s.ask (deviceRequest .poll none .measure n addr)).finish
      else s
    | _, _ => s)

/-- STALENESS_EXPIRY: a channel record becomes not fresh and is reported (R119). -/
def execStalenessExpiry (n : Serial) (ch : Nat) (s : State) : Host.Outcome State Fault Refusal :=
  .next (
    match s.channel? n ch with
    | some c =>
      if c.fresh && s.duePlan c.staleAt then
        ((s.modChannel n ch fun c => { c with fresh := false, staleAt := none }).reportChannel n ch).finish
      else s
    | none => s)

end Sys2Proof.Machine
end

