-- ==== Sys2Proof/Machine/FieldCommands.lean ====
section
/-!
DEFINITION. The commands of the field line: its power, its frames and turns, and the traffic of another master (chapters 9
and 10).
-/
namespace Sys2Proof.Machine

/-! ## Power (R161 to R163) -/

/-- The power field of a LINE_SET, by the line's state (R161). -/
def State.setPower (on : Bool) (s : State) : State :=
  if on then
    if s.line.state = .off && s.line.stateEnd.isNone then
      (s.mapLine fun l => { l with latched := false, overcurrents := [] }).enterRising .lineSet
    else s
  else
    match s.line.state with
    | .off => s.mapLine fun l => { l with stateEnd := none }
    | .fault => s.enterLine .off none .lineSet
    | .rising | .sweeping | .on | .quiet | .waking => s.losePower .off none .lineSet

/-- An accepted LINE_SET: power, then quiet_allowed, then the wake or the quiet test (R161). -/
def State.lineSet (on quiet : Bool) (s : State) : State :=
  let t := (s.setPower on).mapLine fun l => { l with quietAllowed := quiet }
  if quiet then t.quietTest else t.wakeLine

/-- The result of LINE_SET (R161). -/
def State.lineBytes (s : State) : List Byte :=
  [u8 s.line.state.code, flagByte s.line.latched, flagByte s.line.quietAllowed]

/-- LINE_SET. -/
def State.lineSetRequest (tag : Byte) (p : List Byte) (s : State) : State :=
  s.frameTaken 0x1D#8 tag (p.length = 2) fun s =>
    match flagAt p 0, flagAt p 1 with
    | some on, some quiet => s.acceptThen 0x1D#8 tag State.lineBytes (State.lineSet on quiet)
    | _, _ => s.refuse 0x1D#8 tag .badField

/-- An overcurrent in a powered state: FAULT, or OFF latched at the third within 600 s (R163). -/
def State.trips (s : State) : State :=
  let recent := s.line.overcurrents.filter fun u => s.uptime ≤ u + 600
  if recent.length < 2 then
    (s.mapLine fun l => { l with overcurrents := recent ++ [s.uptime] }).losePower .fault (some (s.timeBase + 30000))
      .overcurrent
  else
    (s.mapLine fun l => { l with overcurrents := [], latched := true }).losePower .off none .overcurrentLatched

/-- OVERCURRENT (R163). -/
def execOvercurrent (s : State) : Host.Outcome State Fault Refusal :=
  .next (if s.line.state.powered then s.trips.finish else s)

/-- The timer of a line state has fallen due. -/
def State.lineDue (s : State) (st : LineState) : Bool := s.line.state = st && s.due s.line.stateEnd

/-- RISE_DONE: to SWEEPING for 10 s; the first window falls due at once (R162, R131). -/
def execRiseDone (s : State) : Host.Outcome State Fault Refusal :=
  .next (
    if s.lineDue .rising then
      ((s.enterLine .sweeping (some (s.timeBase + 10000)) .riseDone).mapDevs fun m =>
        { m with nextWindow := some s.timeBase }).finish
    else s)

/-- SWEEP_DONE: to ON; LINE is removed from the runs, a scan is made, and the next window is set (R162, R44). -/
def execSweepDone (s : State) : Host.Outcome State Fault Refusal :=
  .next (
    if s.lineDue .sweeping then
      ((((s.enterLine .on none .sweepDone).returnLine).scan).windowAfterOn.wantQuiet).finish
    else s)

/-- WAKE_DONE: to ON without a notice; a scan is made, and the next window is set (R162). -/
def execWakeDone (s : State) : Host.Outcome State Fault Refusal :=
  .next (
    if s.lineDue .waking then
      (((s.mapLine fun l => { l with state := .on, stateEnd := none }).scan).windowAfterOn.wantQuiet).finish
    else s)

/-- COOL_DOWN_DONE: to RISING (R162). -/
def execCoolDownDone (s : State) : Host.Outcome State Fault Refusal :=
  .next (if s.lineDue .fault then (s.enterRising .coolDownDone).finish else s)

/-- RESTART: the pending restart of RESET FIELD ends, to RISING (R162, R166). -/
def execRestart (s : State) : Host.Outcome State Fault Refusal :=
  .next (if s.lineDue .off then (s.enterRising .restart).finish else s)

/-! ## Our frames and turns (R149 to R155) -/

/-- Our turn is in a phase. -/
def State.turnIn (s : State) (ph : TurnPhase) : Option Turn := s.line.turn.filter (·.phase = ph)

/-- The phase that follows our stop condition, and its 30 ms (R149, R155). -/
def State.awaitReply (t : Turn) (ph : TurnPhase) (s : State) : State :=
  s.mapLine fun l => { l with turn := some { t with phase := ph, waitEnd := some (s.timeBase + 30) } }

/-- The spacing timer starts at the end of an actuation frame (R51). -/
def State.startSpacing (op : FieldOp) (s : State) : State :=
  if op.isActuation then s.mapSeqr fun q => { q with spacingEnd := some (s.timeBase + 400) } else s

/-- Our frame has reached its stop condition (R149, R155): the guard and the spacing timer start; an ALL_CLOSE, which
discards the flow window (R77), and a release ASSIGN are complete; an INVITE opens the announce slot; the others wait for
their reply. -/
def State.frameSent (t : Turn) (e : Entry) (s : State) : State :=
  let u := (((s.modEntry t.entry fun x => { x with sentOnce := true }).mapLine fun l =>
    { l with guardEnd := some (s.timeBase + 6) }).startSpacing e.op)
  match e.op with
  | .allClose => (u.discardWindow.endTurn).complete t.entry (.ok [])
  | .invite => u.awaitReply t .announceSlot
  | _ => if e.replyAddr.isNone then u.endTurn.complete t.entry (.ok []) else u.awaitReply t .awaiting

/-- FIELD_FRAME_SENT. -/
def execFieldFrameSent (s : State) : Host.Outcome State Fault Refusal :=
  .next (
    match s.turnIn .sending with
    | some t =>
      match s.entry? t.entry with
      | some e => (s.frameSent t e).finish
      | none => s.endTurn
    | none => s)

/-- REPLY_START_CONDITION: the waits of the turn stop and the 20 ms limit starts (R149). -/
def execReplyStartCondition (s : State) : Host.Outcome State Fault Refusal :=
  .next (s.mapLine fun l =>
    { l with turn := l.turn.map fun t =>
        if t.phase = .sending || t.replyLimit.isSome then t else { t with replyLimit := some (s.timeBase + 20) } })

/-- The entry that accepts a reply from an address with a tag byte (R150, log 33). -/
def State.accepts (s : State) (address : BitVec 6) (tag : Byte) : Option Nat :=
  match s.entry? (tag.toNat % 16) with
  | some e =>
    if tag = tagByte (tag.toNat % 16) e.gen && e.sentOnce && (e.state = .sent || e.state = .queued) &&
        e.replyAddr = some address.toNat then
      some (tag.toNat % 16)
    else none
  | none => none

/-- A reply ends the turn of the entry that accepts it (R149). DESIGN CHOICE (log 28): a late reply that a QUEUED entry accepts
within the turn of another entry lets that turn go on, as R150 has a stray do. -/
def State.leaveTurn (i : Nat) (s : State) : State :=
  match s.line.turn with
  | some t => if t.entry = i then s.endTurn else s.resumeWait
  | none => s

/-- An accepted reply with status HOLD (R152). DESIGN CHOICE (log 54): a QUEUED entry that accepts a late HOLD becomes HOLDING
also while another entry speaks to the same short address, where R145 has at most one SENT or HOLDING. -/
def State.holdEntry (i : Nat) (e : Entry) (payload : List Byte) (s : State) : State :=
  let wait := holdWaitOf payload
  if 10000 < e.holdTotal + wait then s.complete i (.timeout e.badChecks)
  else
    s.modEntry i fun x =>
      { x with state := .holding, holdUntil := some (s.timeBase + wait), holdTotal := x.holdTotal + wait }

/-- An accepted reply, by its status (R151, R152); bytes that the status or the op has no layout for are ignored (log 62). -/
def State.answered (i : Nat) (status : Byte) (payload : List Byte) (s : State) : State :=
  match s.entry? i with
  | some e =>
    match status.toNat with
    | 0 => s.complete i (.ok payload)
    | 1 => s.holdEntry i e payload
    | code => s.complete i (.fault (devStatusOf code))
  | none => s

/-- A stray: the count stops at 65535 (R150). -/
def State.countStray (s : State) : State := s.mapSched fun c => { c with strays := min 65535 (c.strays + 1) }

/-- A REPLY frame that passed its check is matched; one that is not accepted is a stray (R150). -/
def State.fieldReply (address : BitVec 6) (tag status : Byte) (payload : List Byte) (s : State) : State :=
  let t := s.stopHeard
  match t.accepts address tag with
  | some i => (t.leaveTurn i).answered i status payload
  | none => t.countStray.resumeWait

/-- An entry's hold has ended: QUEUED with op COLLECT (R152). -/
def Entry.collect (e : Entry) : Entry :=
  { e with state := .queued, op := .collect, payload := [], holdUntil := none, sentOnce := false, attempts := 0,
           badChecks := 0 }

/-- HOLD_EXPIRY (R152). -/
def execHoldExpiry (i : Nat) (s : State) : Host.Outcome State Fault Refusal :=
  .next (
    match s.entry? i with
    | some e => if e.state = .holding && s.due e.holdUntil then (s.modEntry i Entry.collect).finish else s
    | none => s)

/-- TURN_TIMEOUT: no reply has begun within 30 ms (R153). -/
def execTurnTimeout (s : State) : Host.Outcome State Fault Refusal :=
  .next (
    match s.turnIn .awaiting with
    | some t => if t.replyLimit.isNone && s.due t.waitEnd then (s.endAttempt t.entry false).finish else s
    | none => s)

/-- A frame that fails in our turn: a failed check of the attempt, or the failed result of the announce slot
(R131, R149, R153). DESIGN CHOICE (log 48): an ANNOUNCE begun in the slot without a stop condition ends the slot 20 ms after
its start, as a failed frame; R149 gives the 20 ms for a reply, R169 outside our turns. -/
def State.failTurn (t : Turn) (s : State) : State :=
  match t.phase with
  | .awaiting => s.endAttempt t.entry true
  | .announceSlot => s.inviteDone t.entry .failed
  | .sending => s

/-- REPLY_TOO_LONG: the 20 ms limit has passed (R149). -/
def execReplyTooLong (s : State) : Host.Outcome State Fault Refusal :=
  .next (
    match s.line.turn with
    | some t => if s.due t.replyLimit then (s.failTurn t).finish else s
    | none => s)

/-- ANNOUNCE_SLOT_END: an empty slot ends 30 ms after the INVITE's stop condition, another one at the stop condition of
the frame heard (R131, R155, R167). DESIGN CHOICE (log 48): a frame that is no ANNOUNCE, begun in the slot and still on the
cable at 30 ms, does not keep the slot open, as R168 ends a turn; the slot is then empty. -/
def execAnnounceSlotEnd (result : AnnounceResult) (s : State) : Host.Outcome State Fault Refusal :=
  .next (
    match s.turnIn .announceSlot with
    | some t =>
      if result = .empty then
        if t.replyLimit.isNone && s.due t.waitEnd then (s.inviteDone t.entry .empty).finish else s
      else (s.stopHeard.inviteDone t.entry result).finish
    | none => s)

/-- A frame of ours has lost arbitration: QUEUED again, or CONTENTION at the eighth loss or with no_retry (R154); the rest
of the frame on the cable is not ours (R170). -/
def State.loseArbitration (t : Turn) (e : Entry) (s : State) : State :=
  let u := s.mapLine fun l =>
    { l with turn := none, foreignBusy := true, foreignLimit := some (t.startedAt + 20) }
  if e.noRetry || 8 ≤ e.arbLosses + 1 then u.complete t.entry .contention
  else u.modEntry t.entry fun x => { x with state := .queued, arbLosses := x.arbLosses + 1 }

/-- ARBITRATION_LOST. -/
def execArbitrationLost (s : State) : Host.Outcome State Fault Refusal :=
  .next (
    match s.turnIn .sending with
    | some t =>
      match s.entry? t.entry with
      | some e => (s.loseArbitration t e).finish
      | none => s.endTurn
    | none => s)

/-! ## Guard and foreign traffic (R169, R171) -/

/-- GUARD_EXPIRY (R169). -/
def execGuardExpiry (s : State) : Host.Outcome State Fault Refusal :=
  .next (if s.due s.line.guardEnd then (s.mapLine fun l => { l with guardEnd := none }).finish else s)

/-- FOREIGN_FRAME_START: a start condition that the part did not make begins a frame on the cable; outside our turns it
sets foreign_busy (R169), and in one it is kept in mind until the turn ends (R167, log 28). -/
def execForeignFrameStart (s : State) : Host.Outcome State Fault Refusal :=
  .next (
    if s.line.state.powered then
      (s.mapLine fun l =>
        { l with foreignBusy := l.foreignBusy || l.turn.isNone, foreignLimit := some (s.timeBase + 20) }).finish
    else s)

/-- The zone that owns an output (R11). -/
def State.ownerOf (s : State) (ref : Ref) : Option Nat :=
  zoneNums.find? fun z =>
    match s.zone? z with
    | some r => r.outputs.contains ref
    | none => false

/-- A COMMAND not ours is decoded for its op and address (R171); bytes beyond its layout are ignored (log 62). -/
def State.foreignCommand (f : FieldFrame) (s : State) : State :=
  match foreignOpOf f.code.toNat with
  | some .allClose => s.post (.foreignActuation .allClose none none none)
  | some op =>
    let num := fieldByte f.payload 0
    match s.deviceAt? f.address.toNat with
    | some d =>
      if 1 ≤ f.address.toNat && f.address.toNat ≤ 62 && 1 ≤ num && num ≤ 4 then
        match s.ownerOf { serial := d.serial, num := num } with
        | some z => s.post (.foreignActuation op (some z) (some { serial := d.serial, num := num }) d.shortAddr)
        | none => s
      else s
    | none => s
  | none => s

/-- FOREIGN_FRAME_CUTOFF: a foreign frame without a stop condition 20 ms after its start is discarded (R169). -/
def execForeignFrameCutoff (s : State) : Host.Outcome State Fault Refusal :=
  .next (
    if s.due s.line.foreignLimit then
      (s.mapLine fun l => { l with foreignBusy := false, foreignLimit := none }).finish
    else s)

/-! ## The frames heard (R168) -/

/-- An ANNOUNCE that passed its check is the result of the announce slot, and is discarded outside one (R131, R168). -/
def State.announced (payload : List Byte) (s : State) : State :=
  match s.turnIn .announceSlot with
  | some t => s.stopHeard.inviteDone t.entry (.serial (fieldSerial payload))
  | none => s.stopHeard.resumeWait

/-- A frame that passed its check is handed on by its type and the moment it arrives (R168). -/
def State.handOn (f : FieldFrame) (s : State) : State :=
  match f.type with
  | .reply => s.fieldReply f.address f.tag f.code f.payload
  | .command => s.stopHeard.resumeWait.foreignCommand f
  | .announce => s.announced f.payload

/-- A frame that failed its check ends our attempt or our announce slot, and is discarded outside our turns (R168). -/
def State.frameFails (s : State) : State :=
  match s.line.turn with
  | some t => s.stopHeard.failTurn t
  | none => s.stopHeard

/-- The stop condition of a frame not ours, with what its check made of it: the Interface hears frames in every powered
state (R168). On an unpowered line a reply is that of a device still powered for a moment after the abort, a stray (R158),
and nothing else is heard (log 47). -/
def State.hearFrame (f : Option FieldFrame) (s : State) : State :=
  match s.line.state.powered, f with
  | true, some f => (s.handOn f).finish
  | true, none => s.frameFails.finish
  | false, some f => if f.type = .reply then s.countStray else s
  | false, none => s

/-- FIELD_REPLY_RECEIVED: a REPLY frame by its fields (R150); one with more than 12 payload bytes fails its check (R168,
log 56). -/
def execFieldReplyReceived (address : BitVec 6) (tag status : Byte) (payload : List Byte) (s : State) :
    Host.Outcome State Fault Refusal :=
  .next (s.hearFrame
    (FieldFrame.checked { type := .reply, address := address, tag := tag, code := status, payload := payload }))

/-- FIELD_BAD_FRAME: a frame that fails its check ends our attempt if it comes within a turn, and is discarded otherwise
(R168). -/
def execFieldBadFrame (s : State) : Host.Outcome State Fault Refusal := .next (s.hearFrame none)

/-- FOREIGN_FRAME_STOP: the stop condition of a frame that the part did not send, by the bytes since its start condition;
they are checked, and the frame is handed on by its type (R168, R169, log 56). -/
def execForeignFrameStop (frame : List Byte) (s : State) : Host.Outcome State Fault Refusal :=
  .next (s.hearFrame (fieldFrameOf frame))

end Sys2Proof.Machine
end

