-- ==== Sys2Proof/Machine/HoldCommands.lean ====
section
/-!
DEFINITION. The commands of the Hold Unit (chapter 5).
-/
namespace Sys2Proof.Machine

/-! ## Requests (R84, R87, R93, R94) -/

/-- The result of WEATHER: the holds active and the factor in force (section 11.9). -/
def State.weatherBytes (s : State) : List Byte := [u8 s.hold.activeCode, u8 s.hold.factor]

/-- WEATHER. -/
def State.weatherRequest (tag : Byte) (p : List Byte) (s : State) : State :=
  s.frameTaken 0x04#8 tag (p.length = 8) fun s =>
    let w := weatherAt p s.uptime
    if !w.inRange then s.refuse 0x04#8 tag .badField
    else
      s.acceptThen 0x04#8 tag State.weatherBytes fun s =>
        (s.mapHold fun h => { h with weather := some w }).judgeReport

/-- The new thresholds are in force: while a report is present, its rain sources and WIND are judged again (R87). -/
def State.rejudge (c : HoldConfig) (s : State) : State :=
  let t := s.mapHold fun h => { h with cfg := c }
  match s.hold.weather with
  | some _ => t.startsFound.endsFound
  | none => t

/-- HOLD_CONFIG. -/
def State.holdConfigRequest (tag : Byte) (p : List Byte) (s : State) : State :=
  s.frameTaken 0x05#8 tag (p.length = 8) fun s =>
    let c := holdConfigAt p
    if !c.inRange then s.refuse 0x05#8 tag .badField else s.accept 0x05#8 tag [] (State.rejudge c)

/-- The end of a MANUAL hold of a number of minutes; 0 is a hold with no timer (R93). -/
def State.manualEndAt (s : State) (minutes : Nat) : Option Nat :=
  if minutes = 0 then none else some (s.uptime + minutes * 60)

/-- The MANUAL hold starts, or its timer is changed (R93). -/
def State.holdSet (minutes : Nat) (s : State) : State :=
  let t := s.mapHold fun h => { h with manual := true, manualEnd := s.manualEndAt minutes }
  if s.hold.manual then t else (t.post (.holdEvent .manual .start none (some minutes))).holdStart true

/-- HOLD_SET. -/
def State.holdSetRequest (tag : Byte) (p : List Byte) (s : State) : State :=
  s.frameTaken 0x06#8 tag (p.length = 2) fun s =>
    let minutes := u16At p 0
    if 10080 < minutes then s.refuse 0x06#8 tag .badField
    else s.accept 0x06#8 tag (u16 minutes) (State.holdSet minutes)

/-- HOLD_CLEAR. -/
def State.holdClearRequest (tag : Byte) (p : List Byte) (s : State) : State :=
  s.frameTaken 0x07#8 tag (p.length = 0) fun s =>
    if s.hold.manual then s.accept 0x07#8 tag [] State.manualEnd else s.refuse 0x07#8 tag .conflict

/-! ## The rain contact (R89) -/

/-- The pin's level differs from contact_level: low is closed (R89). -/
def State.contactDiffers (s : State) : Bool := (s.rainIn = .low) != s.hold.contactClosed

/-- The debounce timer starts when the pin comes to differ, and stops when it returns (R89). -/
def State.watchContact (s : State) : State :=
  if s.contactDiffers then
    s.mapHold fun h => { h with debounceEnd := some (h.debounceEnd.getD (s.timeBase + 2000)) }
  else s.mapHold fun h => { h with debounceEnd := none }

/-- RAIN_IN_CHANGE (R89). -/
def execRainInChange (level : PinLevel) (s : State) : Host.Outcome State Fault Refusal :=
  .next (s.setRainIn level).watchContact

/-- The CONTACT source. -/
def RainSources.contactOnly : RainSources := { contact := true, observed := false, forecast := false }

/-- contact_level takes the pin's level, and CONTACT is added or removed (R89). -/
def State.contactSettles (s : State) : State :=
  let t := s.mapHold fun h => { h with contactClosed := s.rainIn = .low, debounceEnd := none }
  if s.rainIn = .low then t.rainAdd RainSources.contactOnly else t.rainRemove RainSources.contactOnly

/-- DEBOUNCE_EXPIRY (R89). -/
def execDebounceExpiry (s : State) : Host.Outcome State Fault Refusal :=
  .next (if s.due s.hold.debounceEnd then s.contactSettles.finish else s)

/-! ## Timers (R86, R90, R94) -/

/-- RELEASE_EXPIRY: RAIN ends (R90). -/
def execReleaseExpiry (s : State) : Host.Outcome State Fault Refusal :=
  .next (if s.duePlan s.hold.releaseEnd then s.rainEnd.finish else s)

/-- The report has expired (R86). -/
def State.weatherExpires (s : State) : State :=
  ((s.mapHold fun h => { h with weather := none }).post (.weatherStale s.hold.freeze)).endsFound

/-- WEATHER_STALE (R86). -/
def execWeatherStale (s : State) : Host.Outcome State Fault Refusal :=
  .next (if s.duePlan (s.hold.weather.map (·.validUntil)) then s.weatherExpires.finish else s)

/-- MANUAL_HOLD_EXPIRY (R94). -/
def execManualHoldExpiry (s : State) : Host.Outcome State Fault Refusal :=
  .next (if s.hold.manual && s.duePlan s.hold.manualEnd then s.manualEnd.finish else s)

end Sys2Proof.Machine
end

