-- ==== Sys2Proof/Machine/LinkCommands.lean ====
section
/-!
DEFINITION. The commands of the Link Controller and the resets (chapter 11).
-/
namespace Sys2Proof.Machine

/-! ## Power-on reset (R183) -/

/-- The Link Controller after a power-on reset (R183). READY is queued with its cause; an idle transmitter takes it at once,
and one that is still sending a frame to its end takes it after that frame (R179, R180). -/
def Link.restart (cause : ReadyCause) (sending : Option HostFrame) : Link :=
  Link.pump { Link.reset with tx := sending, notices := [.ready cause] }

/-- The part after a power-on reset with a READY cause, and the frame that the transmitter goes on sending through it: the
reset state, with the command queue, the level of RAIN_IN, a break in progress and the count of free values as they were
(logs 20, 21); RAIN_IN low starts the debounce (R98). -/
def State.powerOn (cause : ReadyCause) (sending : Option HostFrame) (s : State) : State :=
  { State.reset with
    pending := s.pending, rainIn := s.rainIn, freeCount := s.freeCount,
    link := { Link.restart cause sending with inBreak := s.link.inBreak },
    hold := { HoldUnit.reset with debounceEnd := if s.rainIn = .low then some 2000 else none } }

/-- POWER_ON_RESET. DESIGN CHOICE (log 20): a frame half sent is cut off. -/
def execPowerOnReset (s : State) : Host.Outcome State Fault Refusal := .next (s.powerOn .power none)

/-! ## General requests (R181, R182) -/

/-- The result of IDENT (R181). -/
def identBytes : List Byte := [0x57#8, 0x30#8, 0x43#8, 48#8, 40#8, 32#8, 240#8]

/-- IDENT. -/
def State.identRequest (tag : Byte) (p : List Byte) (s : State) : State :=
  s.frameTaken 0x01#8 tag (p.length = 0) fun s => s.answer 0x01#8 tag identBytes

/-- The uptimes of the overcurrents list within 600 s of the present (R159). -/
def State.recentOvercurrents (s : State) : List Nat := s.line.overcurrents.filter fun u => s.uptime ≤ u + 600

/-- The number of device records in a state. -/
def State.countDevices (s : State) (st : DeviceState) : Nat := s.devices.countP (·.state = st)

/-- The result of STATUS, bytes 1 to 28 (section 11.9). -/
def State.statusBytes (s : State) : List Byte :=
  [u8 s.line.state.code, flagByte s.line.latched, u8 s.recentOvercurrents.length, u8 s.supply.state.code,
    opt8 (s.supply.tripCause.map (·.code)), u8 s.hold.activeCode, flagByte s.clock.valid] ++
  [u8 (s.countRuns .waiting), u8 (s.countRuns .opening), u8 (s.countRuns .opened), u8 (s.countRuns .closing),
    u8 (s.countRuns .soaking), u8 (s.countRuns .suspended)] ++
  [u8 (s.countDevices .unplaced), u8 (s.countDevices .placing), u8 (s.countDevices .identifying),
    u8 (s.countDevices .ready)] ++
  [u8 (s.poller.polls.countP (·.state = .deferred)), u8 s.sched.waits.length] ++ u16 s.sched.strays ++
  u16 s.link.linkErrors ++ u16 s.link.overruns ++
  [u8 s.link.discards, u8 s.link.notices.length, u8 (s.link.slots.countP fun x => !(x.state = .free))]

/-- STATUS. -/
def State.statusRequest (tag : Byte) (p : List Byte) (s : State) : State :=
  s.frameTaken 0x02#8 tag (p.length = 0) fun s => s.answer 0x02#8 tag s.statusBytes

/-- The mask in force: READY and NOTICE_OVERFLOW pass whatever their bits say (R182). -/
def maskInForce (mask : BitVec 32) : BitVec 32 := mask ||| 0x2001#32

/-- NOTICE_FILTER. -/
def State.noticeFilterRequest (tag : Byte) (p : List Byte) (s : State) : State :=
  s.frameTaken 0x1E#8 tag (p.length = 4) fun s =>
    let mask := maskInForce (u32At p 0)
    (s.mapLink fun l => { l with filter := mask }).answer 0x1E#8 tag (u32 mask)

/-! ## RESET (R183) -/

/-- The Zone Table at RESET PLAN: the daily counts, and SETTLING zones to MONITOR (R23). DESIGN CHOICE (log 19): several
SETTLING zones move in ascending zone number, which their ZONE_STATE notices show. -/
def State.resetZones (s : State) : State :=
  (s.mapZones fun l => l.map fun r => { r with runsToday := 0, daysSinceRun := 0, capped := false }).forEach zoneNums
    fun z t =>
      match t.zone? z with
      | some r => if r.state = .settling then t.setZoneState z .monitor else t
      | none => t

/-- RESET PLAN: the zones, the cancel of every run, and the end of a MANUAL hold (R23, R48, R99, log 19). -/
def State.resetPlan (s : State) : State := ((s.resetZones).stopAll .cancelled).manualEnd

/-- The field line at RESET FIELD, by its state (R166); the other blocks act whatever the state. -/
def State.resetLine (s : State) : State :=
  if s.line.state.powered then s.losePower .off (some (s.timeBase + 5000)) .resetField
  else
    let t := s.loseNeighbours
    if s.line.state = .off && !s.line.latched then
      t.mapLine fun l => { l with stateEnd := some (s.timeBase + 5000) }
    else t

/-- Every reading is marked not fresh, and then reported in index order (R128). -/
def State.staleAll (s : State) : State :=
  (s.mapPoller fun p =>
    { p with channels := p.channels.map fun o => o.map fun c => { c with fresh := false, staleAt := none } }).forEach
    (s.poller.channels.filterMap id) fun c t => t.reportChannel c.serial c.channel

/-- RESET FIELD (R24, R49, R128, R141, R158, R166). DESIGN CHOICE (log 27): the loss of the line comes first and the
readings are marked not fresh after it, so that the notices of the runs and zones the loss moves, and a due decision it
brings, still see the estimates as they were. -/
def State.resetFieldAll (s : State) : State := s.resetLine.staleAll

/-- RESET ALL: its reply is queued and a power-on reset is then pending (R183). -/
def State.resetAll (tag : Byte) (s : State) : State :=
  s.mapLink fun l =>
    Link.queueReply { kind := 0x9F#8, tag := tag, payload := [ReplyStatus.ok.code], resets := true }
      { l with resetAllPending := true }

/-- A RESET request, by its scope byte (R183). The three rows of the table are three scopes of it (log 10). -/
def State.resetRequest (tag : Byte) (p : List Byte) (s : State) : State :=
  s.frameTaken 0x1F#8 tag (p.length = 1) fun s =>
    match byteAt p 0 with
    | 0 => s.accept 0x1F#8 tag [] State.resetPlan
    | 1 => s.accept 0x1F#8 tag [] State.resetFieldAll
    | 2 => s.resetAll tag
    | _ => s.refuse 0x1F#8 tag .badField

/-! ## Frames of an unknown kind, and the receiver (R173 to R175) -/

/-- A frame of an unknown KIND: the reply's KIND is 0x80 (R175). -/
def State.unknownRequest (kind tag : Byte) (s : State) : State :=
  s.frameTaken kind tag true fun s => s.refuse 0#8 tag .unknownKind

/-- OVERRUN: a frame that completes while RDY is deasserted (R174). -/
def execOverrun (s : State) : Host.Outcome State Fault Refusal :=
  .next (if s.link.inBreak || s.rdy then s else s.mapLink Link.countOverrun)

/-- HOST_BYTE_GAP_TIMEOUT: a frame in progress whose last byte is more than 50 ms old is discarded (R173). -/
def execHostByteGapTimeout (s : State) : Host.Outcome State Fault Refusal :=
  .next (s.mapLink (Link.closeGap s.timeBase))

/-! ## The break and the transmitter (R179, R180) -/

/-- The Link Controller at a break (R180); the frame being sent goes on. -/
def Link.break (l : Link) : Link :=
  { Link.reset with tx := l.tx, inBreak := true, resetAllPending := l.resetAllPending }

/-- Every entry of origin LINK is detached (R157). -/
def Scheduler.detachLink (c : Scheduler) : Scheduler :=
  { c with entries := c.entries.map fun e => if !(e.state = .free) && e.origin = .link then e.detach else e }

/-- LINK_BREAK: HRX has been low for 20 ms. A break that empties the queue of a pending RESET ALL reply performs the reset
(R183); the frame in progress is sent to its end through it (R180), and READY with cause COMMAND waits for that end. -/
def execLinkBreak (s : State) : Host.Outcome State Fault Refusal :=
  .next (
    if s.link.inBreak then s
    else
      let t := s.mapLink Link.break
      if s.link.replies.any (·.resets) then t.powerOn .command t.link.tx
      else ((t.mapSched Scheduler.detachLink).dropWaits fun req => req.origin = .link).finish)

/-- LINK_BREAK_END: the break ends and READY is queued with cause LINK, the first frame sent after the one in progress
(R180, Link.frameSent). DESIGN CHOICE (log 20): behind READY with cause COMMAND, if the break has performed a reset and that
READY is still queued. -/
def execLinkBreakEnd (s : State) : Host.Outcome State Fault Refusal :=
  .next (
    if s.link.inBreak then (s.mapLink fun l => { l with inBreak := false }).post (.ready .link)
    else s)

/-- HOST_FRAME_SENT: the transmitter has finished a frame (R179, R180); the last byte of the RESET ALL reply performs the
power-on reset (R183). -/
def execHostFrameSent (s : State) : Host.Outcome State Fault Refusal :=
  .next (
    match s.link.tx with
    | some f => if f.resets then s.powerOn .command none else s.mapLink Link.frameSent
    | none => s)

end Sys2Proof.Machine
end

