-- ==== Sys2Proof/Machine/PlanCommands.lean ====
section
/-!
DEFINITION. The commands of the Plan Clock and the Window Grid (chapter 6).
-/
namespace Sys2Proof.Machine

/-! ## The clock (R101 to R103, R110) -/

/-- The forward distance from one day to another (R103). -/
def dayDistance (old new : Nat) : Nat := (new + 65536 - old) % 65536

/-- The day count of a setting: the distance forward, and 0 for a backward setting (R103). -/
def dayCount (old new : Nat) : Nat := if dayDistance old new ≤ 32767 then dayDistance old new else 0

/-- A boundary is applied by a setting of a valid clock that changes the slot (R103). -/
def Clock.crosses (c : Clock) (minute : Nat) : Bool := c.valid && !(minute / 30 = c.slot)

/-- A rollover is applied by a setting of a valid clock that changes the day (R103). -/
def Clock.rolls (c : Clock) (day : Nat) : Bool := c.valid && !(day = c.day)

/-- An accepted SET_TIME (R102, R103). -/
def State.setTime (day minute : Nat) (s : State) : State :=
  let t := s.mapClock fun c => { c with valid := true, day := day, minute := minute, second := 0, slot := minute / 30 }
  if !s.clock.valid then t.scan
  else
    let t := if s.clock.crosses minute then t.boundary else t
    if s.clock.rolls day then t.dayRollover (dayCount s.clock.day day) else t

/-- The result of SET_TIME (R102). -/
def Clock.setTimeBytes (c : Clock) (day minute : Nat) : List Byte :=
  [flagByte (c.crosses minute), flagByte (c.rolls day)] ++ u16 (if c.rolls day then dayCount c.day day else 0)

/-- SET_TIME. -/
def State.setTimeRequest (tag : Byte) (p : List Byte) (s : State) : State :=
  s.frameTaken 0x03#8 tag (p.length = 4) fun s =>
    let day := u16At p 0
    let minute := u16At p 2
    if 1439 < minute then s.refuse 0x03#8 tag .badField
    else s.accept 0x03#8 tag (s.clock.setTimeBytes day minute) (State.setTime day minute)

/-- The clock one minute on: day rises at midnight, returning from 65535 to 0 (R101). -/
def Clock.nextMinute (c : Clock) : Clock :=
  if c.minute = 1439 then { c with second := 0, minute := 0, day := (c.day + 1) % 65536 }
  else { c with second := 0, minute := c.minute + 1 }

/-- The next minute step of a valid clock is a slot boundary, and the last second before it has been reached (R101). -/
def Clock.atBoundary (c : Clock) : Bool := c.valid && c.minute % 30 = 29 && c.second = 59

/-- A natural boundary, and at midnight the rollover after it (R101). -/
def State.minuteBoundary (s : State) : State :=
  let t := (s.mapClock Clock.nextMinute).boundary
  if s.clock.minute = 1439 then t.dayRollover 1 else t

/-- SLOT_BOUNDARY (R110). -/
def execSlotBoundary (s : State) : Host.Outcome State Fault Refusal :=
  .next (if s.clock.atBoundary then s.minuteBoundary.finish else s)

/-! ## The grid (R105 to R109) -/

/-- The order a byte names (section 11.9). -/
def gridOrderOf (n : Nat) : Option GridOrder :=
  match n with
  | 0 => some .acrossSlots
  | 1 => some .acrossZones
  | _ => none

/-- The window of a GRID_WINDOW, if its fields pass (R105). -/
def Grid.windowed (p : List Byte) (g : Grid) : Option Grid :=
  (gridOrderOf (byteAt p 4)).bind fun order =>
    if 1 ≤ byteAt p 0 && byteAt p 0 ≤ byteAt p 1 && byteAt p 1 ≤ 48 && byteAt p 2 ≤ byteAt p 3 && byteAt p 3 ≤ 47 then
      some { g with zoneStart := byteAt p 0, zoneEnd := byteAt p 1, slotStart := byteAt p 2, slotEnd := byteAt p 3,
                    order := order, curZone := byteAt p 0, curSlot := byteAt p 2 }
    else none

/-- GRID_WINDOW. -/
def State.gridWindowRequest (tag : Byte) (p : List Byte) (s : State) : State :=
  s.frameTaken 0x12#8 tag (p.length = 5) fun s =>
    match s.grid.windowed p with
    | some g => (s.mapGrid fun _ => g).answer 0x12#8 tag (u16 g.cells)
    | none => s.refuse 0x12#8 tag .badField

/-- The cell values of a GRID_WRITE; none when the list is empty or longer than 96, or a byte is neither 0 nor 1
(R107). -/
def cellValues (p : List Byte) : Option (List Bool) :=
  if 1 ≤ p.length && p.length ≤ 96 && p.all (fun b => b.toNat ≤ 1) then some (p.map fun b => b.toNat = 1) else none

/-- GRID_WRITE. DESIGN CHOICE (log 49): a bad list is BAD_FIELD whether a swap is armed or not; R107 does not say which of
its two refusals comes first. -/
def State.gridWriteRequest (tag : Byte) (p : List Byte) (s : State) : State :=
  s.frameTaken 0x13#8 tag true fun s =>
    match cellValues p with
    | none => s.refuse 0x13#8 tag .badField
    | some values =>
      if s.grid.swapArmed then s.refuse 0x13#8 tag .conflict
      else
        let g := s.grid.write values
        (s.mapGrid fun _ => g).answer 0x13#8 tag [u8 g.curZone, u8 g.curSlot]

/-- The bank a byte names: 0 ACTIVE, 1 STAGING (section 11.9). -/
def Grid.bankOf (g : Grid) (n : Nat) : Option Bank :=
  match n with
  | 0 => some g.active
  | 1 => some g.staging
  | _ => none

/-- GRID_READ. -/
def State.gridReadRequest (tag : Byte) (p : List Byte) (s : State) : State :=
  s.frameTaken 0x14#8 tag (p.length = 2) fun s =>
    let count := byteAt p 1
    match s.grid.bankOf (byteAt p 0) with
    | some b =>
      if 1 ≤ count && count ≤ 96 then
        let r := s.grid.read b count
        (s.mapGrid fun _ => r.2).answer 0x14#8 tag ([u8 r.2.curZone, u8 r.2.curSlot] ++ r.1.map flagByte)
      else s.refuse 0x14#8 tag .badField
    | none => s.refuse 0x14#8 tag .badField

/-- GRID_SWAP (R109). -/
def State.gridSwapRequest (tag : Byte) (p : List Byte) (s : State) : State :=
  s.frameTaken 0x15#8 tag (p.length = 0) fun s =>
    (s.mapGrid fun g => { g with swapArmed := true }).answer 0x15#8 tag [flagByte s.grid.swapArmed]

end Sys2Proof.Machine
end

