-- ==== Sys2Proof/Machine/RunCommands.lean ====
section
/-!
DEFINITION. The commands of the Run Queue and of the Valve Sequencer (chapters 2 and 3).
-/
namespace Sys2Proof.Machine

/-! ## Requests (R31, R40, R41) -/

/-- The tests of R31, in order; a flag byte that is neither 0 nor 1 is a bad field (R184). DESIGN CHOICE (log 61): R31 lists
no test of split and respect_windows, which are tested within test 1, ahead of every CONFLICT. -/
def State.runNowRefusal (s : State) (z secs : Nat) (split respect : Option Bool) : Option ReplyStatus :=
  match s.zone? z with
  | some r =>
    if secs = 0 || 7200 < secs || split.isNone || respect.isNone then some .badField
    else if (s.run? z).isSome then some .conflict
    else if r.state = .faulted || r.state = .unmapped then some .conflict
    else if s.hold.freeze then some .conflict
    else if s.supply.state = .tripped then some .conflict
    else none
  | none => some .badField

/-- respect_windows of a RUN_NOW: no when the request leaves it out (R31, R175). -/
def respectOf (p : List Byte) : Option Bool := if p.length = 5 then flagAt p 4 else some false

/-- The seq a zone's run holds (log 18). -/
def State.seqOf (s : State) (z : Nat) : Nat :=
  match s.run? z with
  | some r => r.seq
  | none => 0

/-- RUN_NOW. -/
def State.runNowRequest (tag : Byte) (p : List Byte) (s : State) : State :=
  s.frameTaken 0x0F#8 tag (p.length = 4 || p.length = 5) fun s =>
    let z := byteAt p 0
    let secs := u16At p 1
    match s.runNowRefusal z secs (flagAt p 3) (respectOf p) with
    | some st => s.refuse 0x0F#8 tag st
    | none =>
      let first : RunState := if s.hold.applies .manual then .suspended else .waiting
      s.acceptThen 0x0F#8 tag (fun t => u32 (BitVec.ofNat 32 (t.seqOf z)) ++ [u8 first.code])
        (State.enqueue z .manual secs ((flagAt p 3).getD false) ((respectOf p).getD false))

/-- CANCEL_RUN. -/
def State.cancelRunRequest (tag : Byte) (p : List Byte) (s : State) : State :=
  s.frameTaken 0x10#8 tag (p.length = 1) fun s =>
    let z := byteAt p 0
    match s.zone? z, s.run? z with
    | none, _ => s.refuse 0x10#8 tag .badField
    | some _, none => s.refuse 0x10#8 tag .conflict
    | some _, some r => s.accept 0x10#8 tag [u8 r.state.code] (State.applyCause .cancelled z)

/-- CANCEL_ALL. -/
def State.cancelAllRequest (tag : Byte) (p : List Byte) (s : State) : State :=
  s.frameTaken 0x11#8 tag (p.length = 0) fun s =>
    s.accept 0x11#8 tag [u8 s.arb.runs.length] (State.stopAll .cancelled)

/-! ## Timers (R38, R51, R57, R61, R65) -/

/-- RUN_EXPIRY: a run 86400 s after its enqueue (R38). -/
def execRunExpiry (z : Nat) (s : State) : Host.Outcome State Fault Refusal :=
  .next (
    match s.run? z with
    | some r => if s.expired r && !r.admitted then (s.leaveQueue z .expired none).finish else s
    | none => s)

/-- CYCLE_TIMER_EXPIRY: SOAKING is offered, and COMPLETE as well when remaining_s has reached 0 (R57). -/
def execCycleTimerExpiry (z : Nat) (s : State) : Host.Outcome State Fault Refusal :=
  .next (
    match s.run? z, s.record? z with
    | some r, some rec =>
      if r.state = .opened && s.duePlan rec.cycleEnd then (s.closeDecision z (some .soaking)).finish else s
    | _, _ => s)

/-- CLOSE_LIMIT_EXPIRY: a close failure (R65). -/
def execCloseLimitExpiry (z : Nat) (s : State) : Host.Outcome State Fault Refusal :=
  .next (
    match s.record? z with
    | some rec => if s.due rec.closeLimitAt then (s.stuckPath z).finish else s
    | none => s)

/-- SOAK_EXPIRY: the run becomes WAITING, an admission opportunity (R61, R34). -/
def execSoakExpiry (z : Nat) (s : State) : Host.Outcome State Fault Refusal :=
  .next (
    match s.run? z with
    | some r =>
      if r.state = .soaking && s.duePlan r.soakEnd then
        (((s.modRun z fun q => { q with state := .waiting, soakEnd := none }).reportRun z).scan).finish
      else s
    | none => s)

/-- SPACING_EXPIRY: actuation frames may be chosen again (R51). -/
def execSpacingExpiry (s : State) : Host.Outcome State Fault Refusal :=
  .next (
    if s.due s.seqr.spacingEnd then (s.mapSeqr fun q => { q with spacingEnd := none }).finish else s)

end Sys2Proof.Machine
end

