-- ==== Sys2Proof/Machine/SupplyCommands.lean ====
section
/-!
DEFINITION. The commands of the Supply Controller (chapter 4).
-/
namespace Sys2Proof.Machine

/-! ## Requests (R75, R81, R82) -/

/-- An enabled zone has a nominal_flow above a cap (R46). -/
def State.flowAbove (s : State) (cap : Nat) : Bool := s.zones.any fun r => r.cfg.enabled && cap < r.cfg.nominalFlow

/-- The tests of R81, in order. -/
def State.supplySetRefusal (s : State) (u : Supply) : Option ReplyStatus :=
  if !u.inRange then some .badField
  else if 0 < s.arb.openCount then some .conflict
  else if s.flowAbove u.cap then some .badField
  else none

/-- The supply record of an accepted SUPPLY_SET (R81): a change of the flow settings clears the counts, the window is
discarded, and supervision turned off leaves last_flow absent. -/
def Supply.replace (new old : Supply) : Supply :=
  let changed := !(new.pulsesPer10L = old.pulsesPer10L && new.tolerancePct = old.tolerancePct &&
    new.leakThreshold = old.leakThreshold)
  let u := if changed then { new with highCount := 0, lowCount := 0, leakCount := 0, lowAlarmed := false } else new
  { u with windowDiscard := true, lastFlow := if new.pulsesPer10L = 0 then none else new.lastFlow }

/-- SUPPLY_SET. DESIGN CHOICE (log 50): its OK carries the status byte alone; section 11.9 names it neither among the
replies of that byte alone nor in the table of results. -/
def State.supplySetRequest (tag : Byte) (p : List Byte) (s : State) : State :=
  s.frameTaken 0x08#8 tag (p.length = 10) fun s =>
    match s.supplySetRefusal (supplySettings p s.supply) with
    | some st => s.refuse 0x08#8 tag st
    | none =>
      s.accept 0x08#8 tag [] fun s => (s.mapSupply fun u => (supplySettings p u).replace u).scan

/-- The runs in OPEN. -/
def State.openRuns (s : State) : List Run := s.arb.runs.filter (·.state = .opened)

/-- The expected flow: the sum of the nominal flows of the runs in OPEN (R78). -/
def State.expectedFlow (s : State) : Nat := (s.openRuns.map fun r => s.nominal r.zone).sum

/-- The result of SUPPLY_GET after its status byte (R82, section 11.9). -/
def State.supplyBytes (s : State) : List Byte :=
  let u := s.supply
  u16 u.cap ++ [u8 u.maxOpen, u8 u.leadS] ++ u16 u.lagS ++ u16 u.pulsesPer10L ++ [u8 u.tolerancePct, u8 u.leakThreshold] ++
    [u8 u.state.code, opt8 (u.tripCause.map (·.code)), flagByte s.mvOut] ++ opt16 (u.timerEnd.map (· - s.uptime)) ++
    u16 s.arb.flowSum ++ [u8 s.arb.openCount] ++ u16 s.expectedFlow ++ opt16 u.lastFlow ++
    [flagByte u.lastKept, u8 u.highCount, u8 u.lowCount, u8 u.leakCount, flagByte u.lowAlarmed]

/-- SUPPLY_GET. -/
def State.supplyGetRequest (tag : Byte) (p : List Byte) (s : State) : State :=
  s.frameTaken 0x09#8 tag (p.length = 0) fun s => s.answer 0x09#8 tag s.supplyBytes

/-- A trip is cleared (R75): SUPPLY_EVENT CLEARED carries neither cause nor state (log 37). -/
def State.clearTrip (s : State) : State :=
  ((s.mapSupply fun u =>
    { u with state := .idle, tripCause := none, highCount := 0, lowCount := 0, leakCount := 0,
             windowDiscard := true }).post (.supplyEvent .cleared none none)).scan

/-- TRIP_CLEAR. -/
def State.tripClearRequest (tag : Byte) (p : List Byte) (s : State) : State :=
  s.frameTaken 0x0A#8 tag (p.length = 0) fun s =>
    if !(s.supply.state = .tripped) then s.refuse 0x0A#8 tag .conflict
    else if 0 < s.arb.openCount then s.refuse 0x0A#8 tag .conflict
    else s.accept 0x0A#8 tag [] State.clearTrip

/-! ## Timers (R71, R72) -/

/-- LEAD_EXPIRY (R71). -/
def execLeadExpiry (s : State) : Host.Outcome State Fault Refusal :=
  .next (
    if s.supply.state = .lead && s.duePlan s.supply.timerEnd then
      (if 0 < s.arb.openCount then (s.setSupply .on none).supplyIsOn else s.supplyLag).finish
    else s)

/-- LAG_EXPIRY (R72). -/
def execLagExpiry (s : State) : Host.Outcome State Fault Refusal :=
  .next (if s.supply.state = .lag && s.duePlan s.supply.timerEnd then (s.setSupply .idle none).finish else s)

/-! ## Flow supervision (R76 to R80) -/

/-- FLOW_PULSE: counted while supervision is active (R76). DESIGN CHOICE (log 60): the pulses in the rest of a window in which
SUPPLY_SET turns supervision on are counted too, which the last_flow of that discarded window shows. -/
def execFlowPulse (s : State) : Host.Outcome State Fault Refusal :=
  .next (
    if 0 < s.supply.pulsesPer10L then
      s.mapSupply fun u => { u with windowPulses := min 65535 (u.windowPulses + 1) }
    else s)

/-- What a kept window is judged on: the record and the budget as they stood when it ended (R76, log 34). -/
structure Window where
  measured : Nat
  expected : Nat
  supply : Supply
  openOrder : List Nat

/-- The window that ends now. -/
def State.window (s : State) : Window :=
  { measured := s.supply.windowPulses * 600 / s.supply.pulsesPer10L, expected := s.expectedFlow, supply := s.supply,
    openOrder := s.arb.openOrder }

/-- A run was in CLOSING, or in OPENING with an OPEN handed out, when the window ended (R77). -/
def State.pipesChanging (s : State) : Bool :=
  s.arb.runs.any fun r => r.state = .closing || (r.state = .opening && s.openHanded r.zone)

/-- The window is kept (R77). -/
def State.windowKept (s : State) : Bool := !s.supply.windowDiscard && !s.pipesChanging

/-- A window measured high (R78). -/
def Window.high (w : Window) : Bool :=
  w.supply.state = .on && w.expected * (100 + w.supply.tolerancePct) / 100 < w.measured

/-- A window measured low (R79). -/
def Window.low (w : Window) : Bool :=
  w.supply.state = .on && !w.openOrder.isEmpty && w.measured < w.expected * (100 - w.supply.tolerancePct) / 100

/-- A window that shows a leak (R80). -/
def Window.leak (w : Window) : Bool := w.supply.state = .idle && w.supply.leakThreshold ≤ w.measured

/-- High flow is judged (R78). -/
def State.judgeHigh (w : Window) (s : State) : State :=
  if w.high then
    if 2 ≤ w.supply.highCount + 1 then
      let t := s.mapSupply fun u => { u with highCount := 0 }
      match w.openOrder.getLast? with
      | some z => t.closeDecision z (some (.fault .highFlow))
      | none => t.trip .highFlowMain
    else s.mapSupply fun u => { u with highCount := u.highCount + 1 }
  else s.mapSupply fun u => { u with highCount := 0 }

/-- The third low window: one open run is closed with NO_FLOW, several raise one alarm (R79). -/
def State.actLow (w : Window) (s : State) : State :=
  match w.openOrder with
  | [z] => s.closeDecision z (some (.fault .noFlow))
  | _ =>
    if w.supply.lowAlarmed then s
    else
      (s.mapSupply fun u => { u with lowAlarmed := true }).post
        (.flowAlarm w.measured w.expected w.openOrder.length)

/-- Low flow is judged (R79). -/
def State.judgeLow (w : Window) (s : State) : State :=
  if w.low then
    if 3 ≤ w.supply.lowCount + 1 then (s.mapSupply fun u => { u with lowCount := 0 }).actLow w
    else s.mapSupply fun u => { u with lowCount := u.lowCount + 1 }
  else s.mapSupply fun u => { u with lowCount := 0, lowAlarmed := false }

/-- Leak is judged (R80). -/
def State.judgeLeak (w : Window) (s : State) : State :=
  if w.leak then
    if 3 ≤ w.supply.leakCount + 1 then s.trip .leak
    else s.mapSupply fun u => { u with leakCount := u.leakCount + 1 }
  else s.mapSupply fun u => { u with leakCount := 0 }

/-- A flow window ends (R76): the flow is taken, the next window begins, and a kept window is judged. While supervision
is off the window only ends (log 41). -/
def State.endWindow (s : State) : State :=
  let next := fun u : Supply => { u with windowPulses := 0, windowDiscard := false, windowEnd := u.windowEnd + 10 }
  if s.supply.pulsesPer10L = 0 then s.mapSupply fun u => { next u with lastFlow := none }
  else
    let w := s.window
    let t := s.mapSupply fun u => { next u with lastFlow := some w.measured, lastKept := s.windowKept }
    if s.windowKept then ((t.judgeHigh w).judgeLow w).judgeLeak w else t

/-- FLOW_WINDOW_END (R76). -/
def execFlowWindowEnd (s : State) : Host.Outcome State Fault Refusal :=
  .next (if s.supply.windowEnd ≤ s.uptime then s.endWindow.finish else s)

end Sys2Proof.Machine
end

