-- ==== Sys2Proof/Machine/ZoneCommands.lean ====
section
/-!
DEFINITION. The commands of the Zone Unit (chapter 1).
-/
namespace Sys2Proof.Machine

/-! ## Configuration and map (R5 to R9) -/

/-- An accepted ZONE_SET or ZONE_MAP: the unreachable flag, the estimate, the move by the table of R6, and one due
decision for a zone that is then in MONITOR (R6, R9). -/
def State.reconfigured (z : Nat) (s : State) : State :=
  let t := (s.rederive z).updateEstimate z
  match t.zone? z with
  | some r =>
    let live := r.cfg.enabled && !r.outputs.isEmpty
    match r.state with
    | .unmapped | .monitor => (t.setZoneState z (if live then .monitor else .unmapped)).dueDecision z
    | .settling => if live then t else t.setZoneState z .unmapped
    | .due | .active | .soaking | .faulted => t
  | none => t

/-- The tests of R5, in order. -/
def State.zoneSetRefusal (s : State) (z : Nat) (c : Option ZoneConfig) : Option ReplyStatus :=
  match s.zone? z, c with
  | some _, some cfg =>
    if !cfg.inRange then some .badField
    else if cfg.high ≤ cfg.low then some .badField
    else if s.supply.cap < cfg.nominalFlow then some .badField
    else if (s.run? z).isSome then some .conflict
    else none
  | _, _ => some .badField

/-- ZONE_SET. -/
def State.zoneSetRequest (tag : Byte) (p : List Byte) (s : State) : State :=
  s.frameTaken 0x0B#8 tag (p.length = 20) fun s =>
    let z := byteAt p 0
    let c := zoneConfigAt p 1
    match s.zoneSetRefusal z c, c with
    | none, some cfg =>
      s.accept 0x0B#8 tag [] fun s => (s.modZone z fun r => { r with cfg := cfg }).reconfigured z
    | some st, _ => s.refuse 0x0B#8 tag st
    | none, none => s.refuse 0x0B#8 tag .badField

/-- The zone configuration block (section 11.9). -/
def ZoneConfig.bytes (c : ZoneConfig) : List Byte :=
  [flagByte c.enabled] ++ u16 c.low ++ u16 c.high ++ [u8 c.secPerPoint] ++ u16 c.maxRunS ++ u16 c.cycleMaxS ++
    u16 c.soakS ++ [u8 c.settleMin] ++ u16 c.nominalFlow ++ [u8 c.maxRunsPerDay, u8 c.timedIntervalDays] ++ u16 c.timedS

/-- A list of references with its count byte. -/
def refListBytes (l : List Ref) : List Byte := u8 l.length :: l.flatMap refBytes

/-- The result of ZONE_GET after its status byte (R7, section 11.9). -/
def State.zoneBytes (s : State) (z : Nat) (r : Zone) : List Byte :=
  [u8 z] ++ r.cfg.bytes ++ refListBytes r.outputs ++ refListBytes r.channels ++
    [u8 r.state.code, u8 r.mode.code] ++ opt16 r.estimate ++ [u8 r.runsToday, u8 r.daysSinceRun] ++
    [opt8 (r.faultReason.map (·.code)), zoneFlags r.capped r.unreachable] ++
    opt16 (r.settleEnd.map (· - s.uptime)) ++
    [opt8 ((s.run? z).map (·.origin.code)), opt8 ((s.run? z).map (·.state.code))]

/-- ZONE_GET. -/
def State.zoneGetRequest (tag : Byte) (p : List Byte) (s : State) : State :=
  s.frameTaken 0x0C#8 tag (p.length = 1) fun s =>
    match s.zone? (byteAt p 0) with
    | some r => s.answer 0x0C#8 tag (s.zoneBytes (byteAt p 0) r)
    | none => s.refuse 0x0C#8 tag .badField

/-- A record of a device that a reference may name: enrolled, and of the kind or UNKNOWN (R8, test 4). -/
def State.mappable (s : State) (kind : DeviceKind) (ref : Ref) : Bool :=
  match s.device? ref.serial with
  | some d => d.enrolled && (d.kind = kind || d.kind = .unknown)
  | none => false

/-- A reference's number does not exceed the count of a record whose kind is known (R8, test 5). -/
def State.withinCount (s : State) (ref : Ref) : Bool :=
  match s.device? ref.serial with
  | some d => d.kind = .unknown || ref.num ≤ d.count.getD 0
  | none => false

/-- An output reference belongs to the outputs of another zone (R8, test 6). -/
def State.ownedElsewhere (s : State) (z : Nat) (ref : Ref) : Bool :=
  zoneNums.any fun y => y ≠ z &&
    match s.zone? y with
    | some r => r.outputs.contains ref
    | none => false

/-- No reference appears twice in a list (R8, test 2). -/
def refsDistinct : List Ref → Bool
  | [] => true
  | r :: rest => !rest.contains r && refsDistinct rest

/-- The tests of R8, in order. -/
def State.zoneMapRefusal (s : State) (z : Nat) (outs chans : List Ref) : Option ReplyStatus :=
  if (s.zone? z).isNone || 2 < outs.length || 3 < chans.length then some .badField
  else if !(outs.all fun r => 1 ≤ r.num && r.num ≤ 4) || !(chans.all fun r => 1 ≤ r.num && r.num ≤ 3) then
    some .badField
  else if !refsDistinct outs || !refsDistinct chans then some .badField
  else if (s.run? z).isSome then some .conflict
  else if !(outs.all (s.mappable .decoder)) || !(chans.all (s.mappable .probe)) then some .notEnrolled
  else if !((outs ++ chans).all s.withinCount) then some .badField
  else if outs.any (s.ownedElsewhere z) then some .conflict
  else none

/-- The lists of an accepted ZONE_MAP, and the mode that follows the channels (R1, R9). -/
def Zone.remap (outs chans : List Ref) (r : Zone) : Zone :=
  { r with outputs := outs, channels := chans, mode := if chans.isEmpty then .timed else .sensed }

/-- ZONE_MAP. -/
def State.zoneMapRequest (tag : Byte) (p : List Byte) (s : State) : State :=
  s.frameTaken 0x0D#8 tag (zoneMapLengthOk p) fun s =>
    let z := byteAt p 0
    match s.zoneMapRefusal z (zoneMapOutputs p) (zoneMapChannels p) with
    | none =>
      s.accept 0x0D#8 tag [] fun s =>
        (s.modZone z (Zone.remap (zoneMapOutputs p) (zoneMapChannels p))).reconfigured z
    | some st => s.refuse 0x0D#8 tag st

/-! ## Faults and settle (R3, R21) -/

/-- A FAULTED zone is cleared (R21). -/
def State.clearFault (z : Nat) (s : State) : State :=
  match s.zone? z with
  | some r =>
    (s.modZone z fun q => { q with faultReason := none }).setZoneState z
      (if r.cfg.enabled && !r.outputs.isEmpty then .monitor else .unmapped)
  | none => s

/-- FAULT_CLEAR. -/
def State.faultClearRequest (tag : Byte) (p : List Byte) (s : State) : State :=
  s.frameTaken 0x0E#8 tag (p.length = 1) fun s =>
    match s.zone? (byteAt p 0) with
    | some r =>
      if r.state = .faulted then s.accept 0x0E#8 tag [] (State.clearFault (byteAt p 0))
      else s.refuse 0x0E#8 tag .conflict
    | none => s.refuse 0x0E#8 tag .badField

/-- SETTLE_EXPIRY: the settle timer of a zone falls due (R3). -/
def execSettleExpiry (z : Nat) (s : State) : Host.Outcome State Fault Refusal :=
  .next (
    match s.zone? z with
    | some r =>
      if r.state = .settling && s.duePlan r.settleEnd then ((s.setZoneState z .monitor).dueDecision z).finish else s
    | none => s)

end Sys2Proof.Machine
end

