-- ==== Sys2Proof/WellFormed.lean ====
section
/-!
DEFINITION. Which commands the outside world can send: the operand bounds of the two lines' frames and of the tables
the expiries name. A command outside them has a meaning all the same (log 11); the statements that need a bound name it.
-/
namespace Sys2Proof

/-- The longest host payload is 240 bytes (R172). -/
def hostPayloadOk (payload : List Byte) : Bool := payload.length ≤ 240

/-- The longest field payload is 12 bytes (R167). -/
def fieldPayloadOk (payload : List Byte) : Bool := payload.length ≤ 12

/-- A zone number is 1..48 (R1). -/
def zoneNumOk (zone : Nat) : Bool := 1 ≤ zone && zone ≤ 48

/-- The request kinds are 0x01..0x1F (R175). -/
def isRequestKind (kind : Byte) : Bool := 1 ≤ kind.toNat && kind.toNat ≤ 31

/-- The commands that the lines, the pins and the timers can give. -/
def Instr.wf : Instr → Bool
  | .powerOnReset | .overrun | .linkError _ | .hostByteGapTimeout | .linkBreak | .linkBreakEnd | .hostFrameSent => true
  | .ident _ p | .status _ p | .setTime _ p | .weather _ p | .holdConfig _ p | .holdSet _ p | .holdClear _ p
  | .supplySet _ p | .supplyGet _ p | .tripClear _ p | .zoneSet _ p | .zoneGet _ p | .zoneMap _ p | .faultClear _ p
  | .runNow _ p | .cancelRun _ p | .cancelAll _ p | .gridWindow _ p | .gridWrite _ p | .gridRead _ p | .gridSwap _ p
  | .deviceList _ p | .deviceGet _ p | .enrol _ p | .retire _ p | .sweep _ p | .probeRead _ p | .deviceQuery _ p
  | .lineSet _ p | .noticeFilter _ p => hostPayloadOk p
  | .resetPlan _ p => hostPayloadOk p && p ≠ [1#8] && p ≠ [2#8]
  | .resetField _ p => p = [1#8]
  | .resetAll _ p => p = [2#8]
  | .unknownKind kind _ p => !isRequestKind kind && hostPayloadOk p
  | .settleExpiry z | .runExpiry z | .cycleTimerExpiry z | .closeLimitExpiry z | .soakExpiry z => zoneNumOk z
  | .slotBoundary | .leadExpiry | .lagExpiry | .flowPulse | .flowWindowEnd | .rainInChange _ | .debounceExpiry
  | .releaseExpiry | .weatherStale | .manualHoldExpiry | .announceWindowDue | .sweepEnd => true
  | .pollDue serial => serial ≠ 0#32
  | .stalenessExpiry serial channel => serial ≠ 0#32 && 1 ≤ channel && channel ≤ 3
  | .announceSlotEnd (.serial n) => n ≠ 0#32
  | .announceSlotEnd .empty | .announceSlotEnd .failed => true
  | .fieldReplyReceived _ _ _ p => fieldPayloadOk p
  | .holdExpiry entry => entry < 16
  | .turnTimeout | .replyTooLong | .fieldBadFrame | .arbitrationLost | .fieldFrameSent | .spacingExpiry | .guardExpiry
  | .foreignFrameStart | .foreignFrameStop _ | .foreignFrameCutoff | .overcurrent | .riseDone | .sweepDone | .wakeDone | .coolDownDone
  | .restart | .replyStartCondition => true

end Sys2Proof
end

