-- ==== Sys2Proof/Machine/HostFrames.lean ====
section
/-!
DEFINITION. What arrives on HRX: the request that a complete frame spells by its KIND (R175), the bytes of a frame one by
one (R173), and the commands that bring them. What a request does stands with its owner, in the file of its family.
-/
namespace Sys2Proof.Machine

/-! ## The requests by their KIND (R175) -/

/-- A frame that is complete with its CRC matching is handed on by its KIND (R173 to R175). -/
def State.request (kind tag : Byte) (p : List Byte) (s : State) : State :=
  match kind.toNat with
  | 0x01 => s.identRequest tag p
  | 0x02 => s.statusRequest tag p
  | 0x03 => s.setTimeRequest tag p
  | 0x04 => s.weatherRequest tag p
  | 0x05 => s.holdConfigRequest tag p
  | 0x06 => s.holdSetRequest tag p
  | 0x07 => s.holdClearRequest tag p
  | 0x08 => s.supplySetRequest tag p
  | 0x09 => s.supplyGetRequest tag p
  | 0x0A => s.tripClearRequest tag p
  | 0x0B => s.zoneSetRequest tag p
  | 0x0C => s.zoneGetRequest tag p
  | 0x0D => s.zoneMapRequest tag p
  | 0x0E => s.faultClearRequest tag p
  | 0x0F => s.runNowRequest tag p
  | 0x10 => s.cancelRunRequest tag p
  | 0x11 => s.cancelAllRequest tag p
  | 0x12 => s.gridWindowRequest tag p
  | 0x13 => s.gridWriteRequest tag p
  | 0x14 => s.gridReadRequest tag p
  | 0x15 => s.gridSwapRequest tag p
  | 0x16 => s.deviceListRequest tag p
  | 0x17 => s.deviceGetRequest tag p
  | 0x18 => s.enrolRequest tag p
  | 0x19 => s.retireRequest tag p
  | 0x1A => s.sweepRequest tag p
  | 0x1B => s.probeReadRequest tag p
  | 0x1C => s.deviceQueryRequest tag p
  | 0x1D => s.lineSetRequest tag p
  | 0x1E => s.noticeFilterRequest tag p
  | 0x1F => s.resetRequest tag p
  | _ => s.unknownRequest kind tag

/-! ## Bytes on HRX (R173) -/

/-- A byte arrives inside a frame: a framing error, a LEN above 240 or a CRC that does not match discards the frame as a
link error; a frame complete with its CRC matching is handed on, and the receiver hunts again (R173). -/
def State.frameByte (taken : List Byte) (b : HrxByte) (s : State) : State :=
  if !b.stopHigh then s.mapLink Link.countError
  else
    match heardAs (taken ++ [b.value]) with
    | .growing => s.mapLink fun l => { l with receiver := .inFrame (taken ++ [b.value]) s.timeBase }
    | .bad => s.mapLink Link.countError
    | .complete kind tag p => (s.mapLink fun l => { l with receiver := .hunting }).request kind tag p

/-- The receiver takes one byte, after a frame whose gap has grown too long is discarded (R173). -/
def State.hearByte (b : HrxByte) (s : State) : State :=
  let t := s.mapLink (Link.closeGap s.timeBase)
  match t.link.receiver with
  | .hunting => t.mapLink (Link.hunt s.timeBase b)
  | .inFrame taken _ => t.frameByte taken b

/-- Bytes arrive on HRX, one after another (R173); the receiver takes none in a break (R180). -/
def State.hear (bytes : List HrxByte) (s : State) : State :=
  if s.link.inBreak then s else bytes.foldl (fun t b => t.hearByte b) s

/-- LINK_ERROR: bytes arrive on HRX. The receiver discards the frames among them whose LEN is above 240, that hold a
framing error, or whose CRC does not match, skips what is outside a frame, and hands on a frame that is complete with its
CRC matching (R173, log 9). -/
def execLinkError (bytes : List HrxByte) (s : State) : Host.Outcome State Fault Refusal := .next (s.hear bytes)

/-! ## Whole frames -/

/-- A whole frame arrives on HRX, with its CRC matching; `owner` is what its KIND makes of it. A receiver that hunts hands
it on (R173), which is what its bytes do one by one; one that is still in a frame takes its bytes as that frame's (log 9).
A break takes no byte and a payload above 240 bytes is a link error (log 11). -/
def State.takeFrame (kind tag : Byte) (p : List Byte) (owner : State → State) (s : State) : State :=
  if s.link.inBreak then s
  else if 240 < p.length then s.mapLink Link.countError
  else
    let t := s.mapLink (Link.closeGap s.timeBase)
    if t.link.receiver = .hunting then owner t
    else t.hear ({ kind := kind, tag := tag, payload := p, resets := false } : HostFrame).onHrx

/-- IDENT. -/
def execIdent (tag : Byte) (p : List Byte) (s : State) : Host.Outcome State Fault Refusal :=
  .next (s.takeFrame 0x01#8 tag p (State.identRequest tag p))

/-- STATUS. -/
def execStatus (tag : Byte) (p : List Byte) (s : State) : Host.Outcome State Fault Refusal :=
  .next (s.takeFrame 0x02#8 tag p (State.statusRequest tag p))

/-- SET_TIME. -/
def execSetTime (tag : Byte) (p : List Byte) (s : State) : Host.Outcome State Fault Refusal :=
  .next (s.takeFrame 0x03#8 tag p (State.setTimeRequest tag p))

/-- WEATHER. -/
def execWeather (tag : Byte) (p : List Byte) (s : State) : Host.Outcome State Fault Refusal :=
  .next (s.takeFrame 0x04#8 tag p (State.weatherRequest tag p))

/-- HOLD_CONFIG. -/
def execHoldConfig (tag : Byte) (p : List Byte) (s : State) : Host.Outcome State Fault Refusal :=
  .next (s.takeFrame 0x05#8 tag p (State.holdConfigRequest tag p))

/-- HOLD_SET. -/
def execHoldSet (tag : Byte) (p : List Byte) (s : State) : Host.Outcome State Fault Refusal :=
  .next (s.takeFrame 0x06#8 tag p (State.holdSetRequest tag p))

/-- HOLD_CLEAR. -/
def execHoldClear (tag : Byte) (p : List Byte) (s : State) : Host.Outcome State Fault Refusal :=
  .next (s.takeFrame 0x07#8 tag p (State.holdClearRequest tag p))

/-- SUPPLY_SET. -/
def execSupplySet (tag : Byte) (p : List Byte) (s : State) : Host.Outcome State Fault Refusal :=
  .next (s.takeFrame 0x08#8 tag p (State.supplySetRequest tag p))

/-- SUPPLY_GET. -/
def execSupplyGet (tag : Byte) (p : List Byte) (s : State) : Host.Outcome State Fault Refusal :=
  .next (s.takeFrame 0x09#8 tag p (State.supplyGetRequest tag p))

/-- TRIP_CLEAR. -/
def execTripClear (tag : Byte) (p : List Byte) (s : State) : Host.Outcome State Fault Refusal :=
  .next (s.takeFrame 0x0A#8 tag p (State.tripClearRequest tag p))

/-- ZONE_SET. -/
def execZoneSet (tag : Byte) (p : List Byte) (s : State) : Host.Outcome State Fault Refusal :=
  .next (s.takeFrame 0x0B#8 tag p (State.zoneSetRequest tag p))

/-- ZONE_GET. -/
def execZoneGet (tag : Byte) (p : List Byte) (s : State) : Host.Outcome State Fault Refusal :=
  .next (s.takeFrame 0x0C#8 tag p (State.zoneGetRequest tag p))

/-- ZONE_MAP. -/
def execZoneMap (tag : Byte) (p : List Byte) (s : State) : Host.Outcome State Fault Refusal :=
  .next (s.takeFrame 0x0D#8 tag p (State.zoneMapRequest tag p))

/-- FAULT_CLEAR. -/
def execFaultClear (tag : Byte) (p : List Byte) (s : State) : Host.Outcome State Fault Refusal :=
  .next (s.takeFrame 0x0E#8 tag p (State.faultClearRequest tag p))

/-- RUN_NOW. -/
def execRunNow (tag : Byte) (p : List Byte) (s : State) : Host.Outcome State Fault Refusal :=
  .next (s.takeFrame 0x0F#8 tag p (State.runNowRequest tag p))

/-- CANCEL_RUN. -/
def execCancelRun (tag : Byte) (p : List Byte) (s : State) : Host.Outcome State Fault Refusal :=
  .next (s.takeFrame 0x10#8 tag p (State.cancelRunRequest tag p))

/-- CANCEL_ALL. -/
def execCancelAll (tag : Byte) (p : List Byte) (s : State) : Host.Outcome State Fault Refusal :=
  .next (s.takeFrame 0x11#8 tag p (State.cancelAllRequest tag p))

/-- GRID_WINDOW. -/
def execGridWindow (tag : Byte) (p : List Byte) (s : State) : Host.Outcome State Fault Refusal :=
  .next (s.takeFrame 0x12#8 tag p (State.gridWindowRequest tag p))

/-- GRID_WRITE. -/
def execGridWrite (tag : Byte) (p : List Byte) (s : State) : Host.Outcome State Fault Refusal :=
  .next (s.takeFrame 0x13#8 tag p (State.gridWriteRequest tag p))

/-- GRID_READ. -/
def execGridRead (tag : Byte) (p : List Byte) (s : State) : Host.Outcome State Fault Refusal :=
  .next (s.takeFrame 0x14#8 tag p (State.gridReadRequest tag p))

/-- GRID_SWAP. -/
def execGridSwap (tag : Byte) (p : List Byte) (s : State) : Host.Outcome State Fault Refusal :=
  .next (s.takeFrame 0x15#8 tag p (State.gridSwapRequest tag p))

/-- DEVICE_LIST. -/
def execDeviceList (tag : Byte) (p : List Byte) (s : State) : Host.Outcome State Fault Refusal :=
  .next (s.takeFrame 0x16#8 tag p (State.deviceListRequest tag p))

/-- DEVICE_GET. -/
def execDeviceGet (tag : Byte) (p : List Byte) (s : State) : Host.Outcome State Fault Refusal :=
  .next (s.takeFrame 0x17#8 tag p (State.deviceGetRequest tag p))

/-- ENROL. -/
def execEnrol (tag : Byte) (p : List Byte) (s : State) : Host.Outcome State Fault Refusal :=
  .next (s.takeFrame 0x18#8 tag p (State.enrolRequest tag p))

/-- RETIRE. -/
def execRetire (tag : Byte) (p : List Byte) (s : State) : Host.Outcome State Fault Refusal :=
  .next (s.takeFrame 0x19#8 tag p (State.retireRequest tag p))

/-- SWEEP. -/
def execSweep (tag : Byte) (p : List Byte) (s : State) : Host.Outcome State Fault Refusal :=
  .next (s.takeFrame 0x1A#8 tag p (State.sweepRequest tag p))

/-- PROBE_READ. -/
def execProbeRead (tag : Byte) (p : List Byte) (s : State) : Host.Outcome State Fault Refusal :=
  .next (s.takeFrame 0x1B#8 tag p (State.probeReadRequest tag p))

/-- DEVICE_QUERY. -/
def execDeviceQuery (tag : Byte) (p : List Byte) (s : State) : Host.Outcome State Fault Refusal :=
  .next (s.takeFrame 0x1C#8 tag p (State.deviceQueryRequest tag p))

/-- LINE_SET. -/
def execLineSet (tag : Byte) (p : List Byte) (s : State) : Host.Outcome State Fault Refusal :=
  .next (s.takeFrame 0x1D#8 tag p (State.lineSetRequest tag p))

/-- NOTICE_FILTER. -/
def execNoticeFilter (tag : Byte) (p : List Byte) (s : State) : Host.Outcome State Fault Refusal :=
  .next (s.takeFrame 0x1E#8 tag p (State.noticeFilterRequest tag p))

/-- RESET_PLAN. -/
def execResetPlan (tag : Byte) (p : List Byte) (s : State) : Host.Outcome State Fault Refusal :=
  .next (s.takeFrame 0x1F#8 tag p (State.resetRequest tag p))

/-- RESET_FIELD. -/
def execResetField (tag : Byte) (p : List Byte) (s : State) : Host.Outcome State Fault Refusal :=
  .next (s.takeFrame 0x1F#8 tag p (State.resetRequest tag p))

/-- RESET_ALL. -/
def execResetAll (tag : Byte) (p : List Byte) (s : State) : Host.Outcome State Fault Refusal :=
  .next (s.takeFrame 0x1F#8 tag p (State.resetRequest tag p))

/-- UNKNOWN_KIND (R175). A KIND that is a request kind is no such frame (log 11). -/
def execUnknownKind (kind tag : Byte) (p : List Byte) (s : State) : Host.Outcome State Fault Refusal :=
  .next (if isRequestKind kind then s else s.takeFrame kind tag p (State.unknownRequest kind tag))

end Sys2Proof.Machine
end

