-- ==== Sys2Proof/Machine/Dispatch.lean ====
section
/-!
DEFINITION. One arm for each command: the direct call of its meaning.
-/
namespace Sys2Proof.Machine

/-- The effect of a command on everything but the queue. -/
def exec (i : Instr) (s : State) : Host.Outcome State Fault Refusal :=
  match i with
  | .powerOnReset => Sys2Proof.Machine.execPowerOnReset s
  | .ident tag payload => Sys2Proof.Machine.execIdent tag payload s
  | .status tag payload => Sys2Proof.Machine.execStatus tag payload s
  | .setTime tag payload => Sys2Proof.Machine.execSetTime tag payload s
  | .weather tag payload => Sys2Proof.Machine.execWeather tag payload s
  | .holdConfig tag payload => Sys2Proof.Machine.execHoldConfig tag payload s
  | .holdSet tag payload => Sys2Proof.Machine.execHoldSet tag payload s
  | .holdClear tag payload => Sys2Proof.Machine.execHoldClear tag payload s
  | .supplySet tag payload => Sys2Proof.Machine.execSupplySet tag payload s
  | .supplyGet tag payload => Sys2Proof.Machine.execSupplyGet tag payload s
  | .tripClear tag payload => Sys2Proof.Machine.execTripClear tag payload s
  | .zoneSet tag payload => Sys2Proof.Machine.execZoneSet tag payload s
  | .zoneGet tag payload => Sys2Proof.Machine.execZoneGet tag payload s
  | .zoneMap tag payload => Sys2Proof.Machine.execZoneMap tag payload s
  | .faultClear tag payload => Sys2Proof.Machine.execFaultClear tag payload s
  | .runNow tag payload => Sys2Proof.Machine.execRunNow tag payload s
  | .cancelRun tag payload => Sys2Proof.Machine.execCancelRun tag payload s
  | .cancelAll tag payload => Sys2Proof.Machine.execCancelAll tag payload s
  | .gridWindow tag payload => Sys2Proof.Machine.execGridWindow tag payload s
  | .gridWrite tag payload => Sys2Proof.Machine.execGridWrite tag payload s
  | .gridRead tag payload => Sys2Proof.Machine.execGridRead tag payload s
  | .gridSwap tag payload => Sys2Proof.Machine.execGridSwap tag payload s
  | .deviceList tag payload => Sys2Proof.Machine.execDeviceList tag payload s
  | .deviceGet tag payload => Sys2Proof.Machine.execDeviceGet tag payload s
  | .enrol tag payload => Sys2Proof.Machine.execEnrol tag payload s
  | .retire tag payload => Sys2Proof.Machine.execRetire tag payload s
  | .sweep tag payload => Sys2Proof.Machine.execSweep tag payload s
  | .probeRead tag payload => Sys2Proof.Machine.execProbeRead tag payload s
  | .deviceQuery tag payload => Sys2Proof.Machine.execDeviceQuery tag payload s
  | .lineSet tag payload => Sys2Proof.Machine.execLineSet tag payload s
  | .noticeFilter tag payload => Sys2Proof.Machine.execNoticeFilter tag payload s
  | .resetPlan tag payload => Sys2Proof.Machine.execResetPlan tag payload s
  | .resetField tag payload => Sys2Proof.Machine.execResetField tag payload s
  | .resetAll tag payload => Sys2Proof.Machine.execResetAll tag payload s
  | .unknownKind kind tag payload => Sys2Proof.Machine.execUnknownKind kind tag payload s
  | .overrun => Sys2Proof.Machine.execOverrun s
  | .linkError bytes => Sys2Proof.Machine.execLinkError bytes s
  | .hostByteGapTimeout => Sys2Proof.Machine.execHostByteGapTimeout s
  | .linkBreak => Sys2Proof.Machine.execLinkBreak s
  | .linkBreakEnd => Sys2Proof.Machine.execLinkBreakEnd s
  | .hostFrameSent => Sys2Proof.Machine.execHostFrameSent s
  | .slotBoundary => Sys2Proof.Machine.execSlotBoundary s
  | .settleExpiry zone => Sys2Proof.Machine.execSettleExpiry zone s
  | .runExpiry zone => Sys2Proof.Machine.execRunExpiry zone s
  | .cycleTimerExpiry zone => Sys2Proof.Machine.execCycleTimerExpiry zone s
  | .closeLimitExpiry zone => Sys2Proof.Machine.execCloseLimitExpiry zone s
  | .soakExpiry zone => Sys2Proof.Machine.execSoakExpiry zone s
  | .leadExpiry => Sys2Proof.Machine.execLeadExpiry s
  | .lagExpiry => Sys2Proof.Machine.execLagExpiry s
  | .flowPulse => Sys2Proof.Machine.execFlowPulse s
  | .flowWindowEnd => Sys2Proof.Machine.execFlowWindowEnd s
  | .rainInChange level => Sys2Proof.Machine.execRainInChange level s
  | .debounceExpiry => Sys2Proof.Machine.execDebounceExpiry s
  | .releaseExpiry => Sys2Proof.Machine.execReleaseExpiry s
  | .weatherStale => Sys2Proof.Machine.execWeatherStale s
  | .manualHoldExpiry => Sys2Proof.Machine.execManualHoldExpiry s
  | .pollDue serial => Sys2Proof.Machine.execPollDue serial s
  | .stalenessExpiry serial channel => Sys2Proof.Machine.execStalenessExpiry serial channel s
  | .announceWindowDue => Sys2Proof.Machine.execAnnounceWindowDue s
  | .announceSlotEnd result => Sys2Proof.Machine.execAnnounceSlotEnd result s
  | .sweepEnd => Sys2Proof.Machine.execSweepEnd s
  | .fieldReplyReceived address tag status payload => Sys2Proof.Machine.execFieldReplyReceived address tag status payload s
  | .holdExpiry entry => Sys2Proof.Machine.execHoldExpiry entry s
  | .turnTimeout => Sys2Proof.Machine.execTurnTimeout s
  | .replyTooLong => Sys2Proof.Machine.execReplyTooLong s
  | .fieldBadFrame => Sys2Proof.Machine.execFieldBadFrame s
  | .arbitrationLost => Sys2Proof.Machine.execArbitrationLost s
  | .fieldFrameSent => Sys2Proof.Machine.execFieldFrameSent s
  | .spacingExpiry => Sys2Proof.Machine.execSpacingExpiry s
  | .guardExpiry => Sys2Proof.Machine.execGuardExpiry s
  | .foreignFrameStart => Sys2Proof.Machine.execForeignFrameStart s
  | .foreignFrameStop frame => Sys2Proof.Machine.execForeignFrameStop frame s
  | .foreignFrameCutoff => Sys2Proof.Machine.execForeignFrameCutoff s
  | .overcurrent => Sys2Proof.Machine.execOvercurrent s
  | .riseDone => Sys2Proof.Machine.execRiseDone s
  | .sweepDone => Sys2Proof.Machine.execSweepDone s
  | .wakeDone => Sys2Proof.Machine.execWakeDone s
  | .coolDownDone => Sys2Proof.Machine.execCoolDownDone s
  | .restart => Sys2Proof.Machine.execRestart s
  | .replyStartCondition => Sys2Proof.Machine.execReplyStartCondition s

end Sys2Proof.Machine
end

