-- ==== Sys2Proof/Machine/Tick.lean ====
section
/-!
DEFINITION. One millisecond of the part's time base, which passes in the step on an empty queue (log 1): the seconds of
uptime and of the plan clock, and the commands of the timers that have fallen due, in one fixed order (log 22).
-/
namespace Sys2Proof.Machine

/-- The plan clock one second on (R101). The minute step that is a slot boundary is left to SLOT_BOUNDARY, which this
second raises. -/
def Clock.nextSecond (c : Clock) : Clock :=
  if !c.valid || c.atBoundary then c
  else if c.second = 59 then { c with second := 0, minute := c.minute + 1 }
  else { c with second := c.second + 1 }

/-- One second of uptime (R100). Past the top of its range uptime takes a free value (log 4). -/
def State.secondPasses (s : State) : State :=
  if s.clock.uptime < 4294967295 then s.mapClock fun c => { c.nextSecond with uptime := c.uptime + 1 }
  else
    { s with clock := { s.clock.nextSecond with uptime := (Config.uptimeAfterTop s.freeCount).toNat },
             freeCount := s.freeCount + 1 }

/-- A command that is due, or nothing. -/
def dueIf (b : Bool) (c : Instr) : List Instr := if b then [c] else []

/-- The timers of the zones that have fallen due (R3). -/
def State.dueZones (s : State) : List Instr :=
  zoneNums.flatMap fun z =>
    match s.zone? z with
    | some r => dueIf (r.state = .settling && s.duePlan r.settleEnd) (.settleExpiry z)
    | none => []

/-- The timers of the runs that have fallen due: expiry of a run that is not admitted, cycle, close limit, soak
(R38, R57, R61, R65). -/
def State.dueRuns (s : State) : List Instr :=
  s.arb.runs.flatMap fun r =>
    let rec? := s.record? r.zone
    dueIf (s.expired r && !r.admitted) (.runExpiry r.zone) ++
      dueIf (r.state = .opened && s.duePlan (rec?.bind (·.cycleEnd))) (.cycleTimerExpiry r.zone) ++
      dueIf (s.due (rec?.bind (·.closeLimitAt))) (.closeLimitExpiry r.zone) ++
      dueIf (r.state = .soaking && s.duePlan r.soakEnd) (.soakExpiry r.zone)

/-- The timers of the supply and the Hold Unit that have fallen due. -/
def State.dueSupply (s : State) : List Instr :=
  dueIf (s.supply.state = .lead && s.duePlan s.supply.timerEnd) .leadExpiry ++
    dueIf (s.supply.state = .lag && s.duePlan s.supply.timerEnd) .lagExpiry ++
    dueIf (s.supply.windowEnd ≤ s.uptime) .flowWindowEnd ++
    dueIf (s.due s.hold.debounceEnd) .debounceExpiry ++
    dueIf (s.duePlan s.hold.releaseEnd) .releaseExpiry ++
    dueIf (s.duePlan (s.hold.weather.map (·.validUntil))) .weatherStale ++
    dueIf (s.hold.manual && s.duePlan s.hold.manualEnd) .manualHoldExpiry

/-- The Poller's and the Device Manager's timers that have fallen due. -/
def State.dueProbes (s : State) : List Instr :=
  (s.poller.polls.flatMap fun r => dueIf (r.state = .waiting && s.duePlan r.nextPoll) (.pollDue r.serial)) ++
    (s.poller.channels.flatMap fun o =>
      match o with
      | some c => dueIf (c.fresh && s.duePlan c.staleAt) (.stalenessExpiry c.serial c.channel)
      | none => []) ++
    dueIf (s.duePlan s.devs.sweepEnd) .sweepEnd

/-- The command that ends a timed line state (R162). -/
def LineState.timer : LineState → List Instr
  | .rising => [.riseDone]
  | .sweeping => [.sweepDone]
  | .waking => [.wakeDone]
  | .fault => [.coolDownDone]
  | .off => [.restart]
  | .on | .quiet => []

/-- The timers of a turn that have fallen due (R149); an announce slot ends at 30 ms whatever frame that is no ANNOUNCE is on
the cable (log 48). -/
def State.dueTurn (s : State) (t : Turn) : List Instr :=
  dueIf (s.due t.replyLimit) .replyTooLong ++
    dueIf (t.replyLimit.isNone && s.due t.waitEnd)
      (if t.phase = .announceSlot then .announceSlotEnd .empty else .turnTimeout)

/-- The field line's timers that have fallen due. -/
def State.dueField (s : State) : List Instr :=
  (if s.due s.line.stateEnd then s.line.state.timer else []) ++
    ((List.range 16).flatMap fun i =>
      match s.entry? i with
      | some e => dueIf (e.state = .holding && s.due e.holdUntil) (.holdExpiry i)
      | none => []) ++
    (match s.line.turn with
      | some t => s.dueTurn t
      | none => []) ++
    dueIf (s.due s.seqr.spacingEnd) .spacingExpiry ++
    dueIf (s.due s.line.guardEnd) .guardExpiry ++
    dueIf (s.due s.line.foreignLimit) .foreignFrameCutoff ++
    dueIf s.windowReady .announceWindowDue

/-- The gap timeout of a host frame in progress (R173). -/
def State.dueLink (s : State) : List Instr := dueIf (s.link.gapPassed s.timeBase) .hostByteGapTimeout

/-- The commands of the timers that have fallen due, in one fixed order (log 22). -/
def State.dueCommands (s : State) : List Instr :=
  s.dueZones ++ s.dueRuns ++ s.dueSupply ++ s.dueProbes ++ s.dueField ++ s.dueLink

/-- One millisecond passes; every thousandth is a second of uptime, and the second that ends at a boundary raises
SLOT_BOUNDARY ahead of the timers. DESIGN CHOICE (logs 22 and 59): the cut of a boundary is thus taken before a cycle timer
that falls due with it. -/
def State.tick (s : State) : State :=
  let t := { s with timeBase := s.timeBase + 1 }
  if t.timeBase % 1000 = 0 then
    let u := t.secondPasses
    u.setPending (dueIf t.clock.atBoundary .slotBoundary ++ u.dueCommands)
  else t.setPending t.dueCommands

end Sys2Proof.Machine
end

