-- ==== Sys2Proof/Safety.lean ====
section
/-!
DEFINITION. What every reachable state satisfies (the invariants), and the words the statements are written in: a request
that is taken, a reply that is given, the classes of commands.
-/
namespace Sys2Proof.Machine

/-! ## Invariants -/

/-- The tables have their fixed sizes (R1, R114, R129, R145, R176). -/
def State.TablesOk (s : State) : Prop :=
  s.zones.length = 48 ∧ s.sched.entries.length = 16 ∧ s.devs.table.length = 40 ∧ s.poller.channels.length = 32 ∧
    s.link.slots.length = 8

/-- The reply queue holds at most 4 replies and the Notice Queue at most 32 notices (R174, R178). -/
def State.QueuesOk (s : State) : Prop := s.link.replies.length ≤ 4 ∧ s.link.notices.length ≤ 32

/-- Both banks are in canonical form (R104). -/
def State.BanksOk (s : State) : Prop := Bank.wf s.grid.active = true ∧ Bank.wf s.grid.staging = true

/-- The grid's window is a rectangle of the banks and the cursor is inside it (R104, R106). -/
def Grid.CursorOk (g : Grid) : Prop :=
  1 ≤ g.zoneStart ∧ g.zoneEnd ≤ 48 ∧ g.slotEnd ≤ 47 ∧ g.zoneStart ≤ g.curZone ∧ g.curZone ≤ g.zoneEnd ∧
    g.slotStart ≤ g.curSlot ∧ g.curSlot ≤ g.slotEnd

/-- The settings are within their ranges, and H is above L in every zone (R5, R81, R87). -/
def State.SettingsOk (s : State) : Prop :=
  s.supply.inRange = true ∧ s.hold.cfg.inRange = true ∧
    ∀ r ∈ s.zones, r.cfg.inRange = true ∧ r.cfg.low < r.cfg.high

/-- A zone's map holds at most 2 outputs and 3 channels, and the mode is SENSED exactly while it holds a channel
(R1, R8). -/
def State.MapsOk (s : State) : Prop :=
  ∀ r ∈ s.zones, r.outputs.length ≤ 2 ∧ r.channels.length ≤ 3 ∧ (r.mode = .sensed ↔ r.channels ≠ [])

/-- The clocks are within their ranges, and the slot is the half hour the minute lies in (R100, R101, R110). -/
def Clock.Ok (c : Clock) : Prop :=
  c.uptime ≤ 4294967295 ∧ c.day ≤ 65535 ∧ c.minute ≤ 1439 ∧ c.second ≤ 59 ∧ c.slot = c.minute / 30

/-- The holds are consistent: RAIN is active exactly while a source is asserted or the release timer runs, the timer runs
only with no source asserted, the CONTACT source follows the contact level, a MANUAL timer runs only under a MANUAL hold,
and a report present is within its ranges (R84, R89, R90, R93). -/
def HoldUnit.Ok (h : HoldUnit) : Prop :=
  (h.rainActive = true ↔ h.sources.isEmpty = false ∨ h.releaseEnd.isSome = true) ∧
    (h.releaseEnd.isSome = true → h.sources.isEmpty = true) ∧ h.sources.contact = h.contactClosed ∧
    (h.manualEnd.isSome = true → h.manual = true) ∧ ∀ w, h.weather = some w → w.inRange = true

/-- A trip cause is present exactly while the supply is TRIPPED (R73, R75), and open_count does not exceed max_open
(R35, R81). -/
def State.SupplyOk (s : State) : Prop :=
  (s.supply.state = .tripped ↔ s.supply.tripCause.isSome = true) ∧ s.arb.openCount ≤ s.supply.maxOpen

/-- The flow budget is what the admitted runs hold: open_count counts them and flow_sum adds their zones' nominal flows
(R32), each has its actuation record and no other run has one (R50), a zone has at most one run (R25) and its state goes
with the run's (section 2.2), and open_order names runs in OPEN alone (R78). -/
def State.BudgetOk (s : State) : Prop :=
  let admitted := s.arb.runs.filter (·.admitted)
  s.arb.openCount = admitted.length ∧ s.arb.flowSum = (admitted.map fun q => s.nominal q.zone).sum ∧
    s.runZones.Nodup ∧ (∀ q ∈ s.arb.runs, ∃ r, s.zone? q.zone = some r ∧ r.state = q.zoneState) ∧
    (∀ z, z ∈ s.seqr.records.map (·.zone) ↔ z ∈ admitted.map (·.zone)) ∧
    ∀ z ∈ s.arb.openOrder, ∃ q ∈ s.arb.runs, q.zone = z ∧ q.state = .opened

/-- No mark of an event is left between commands (log 30). -/
abbrev State.Settled (s : State) : Prop := s.todo = { scan := false, quiet := false }

/-- The part is in order. -/
def State.Inv (s : State) : Prop :=
  s.TablesOk ∧ s.QueuesOk ∧ s.BanksOk ∧ s.grid.CursorOk ∧ s.SettingsOk ∧ s.MapsOk ∧ s.clock.Ok ∧ s.hold.Ok ∧ s.SupplyOk ∧
    s.BudgetOk ∧ s.Settled

/-! ## Requests and replies -/

/-- A complete request frame with this payload is taken and decoded at once: no break is in progress, the receiver hunts
for SYNC, the payload is no longer than 240 bytes, and RDY is asserted (R172 to R174, R180). -/
abbrev State.Takes (s : State) (p : List Byte) : Prop :=
  s.link.inBreak = false ∧ s.link.receiver = .hunting ∧ p.length ≤ 240 ∧ s.rdy = true

/-- The link after a frame is discarded with a link error (R173). -/
def Link.failed (l : Link) : Link := { l with receiver := .hunting, linkErrors := min 65535 (l.linkErrors + 1) }

/-- The link after a frame completes while RDY is deasserted (R174). -/
def Link.overran (l : Link) : Link := { l with receiver := .hunting, overruns := min 65535 (l.overruns + 1) }

/-- The frame of a request (R172). -/
def requestFrame (kind tag : Byte) (p : List Byte) : HostFrame :=
  { kind := kind, tag := tag, payload := p, resets := false }

/-- The reply of a request kind: KIND plus 0x80, the request's TAG, the status byte, the result (R172, R175). -/
def replyFrame (kind tag : Byte) (status : ReplyStatus) (result : List Byte) : HostFrame :=
  { kind := kind + 0x80#8, tag := tag, payload := status.code :: result, resets := false }

/-- The state after a reply is queued and nothing else is done (R174, R179). -/
def State.replied (kind tag : Byte) (status : ReplyStatus) (result : List Byte) (s : State) : State :=
  { s with link := s.link.queueReply (replyFrame kind tag status result) }

/-- A command's whole effect is a reply of its status alone (R175). -/
abbrev RefusedWith (c : Instr) (kind tag : Byte) (status : ReplyStatus) (s : State) : Prop :=
  exec c s = .next (s.replied kind tag status [])

/-- A command's whole effect is the reply OK with a result. -/
abbrev OnlyAnswers (c : Instr) (kind tag : Byte) (result : List Byte) (s : State) : Prop :=
  exec c s = .next (s.replied kind tag .ok result)

/-- A reply has been given: it is being sent or waits in the reply queue (R174, R179). -/
abbrev State.Answered (f : HostFrame) (s : State) : Prop := s.link.tx = some f ∨ f ∈ s.link.replies

/-- Notices are posted one after another (R178). -/
def Link.postAll (notices : List Notice) (l : Link) : Link := notices.foldl (fun m n => m.post n) l

/-! ## The rules several commands share -/

/-- A transaction stands on the table, asked for at the present moment (R146). -/
abbrev State.HasAsked (t : State) (o : Origin) (op : FieldOp) (address : Nat) (reply : Option Nat) (payload : List Byte) :
    Prop :=
  ∃ e ∈ t.sched.entries, (e.state = .queued ∨ e.state = .sent) ∧ e.origin = o ∧ e.op = op ∧ e.address = address ∧
    e.replyAddr = reply ∧ e.payload = payload ∧ e.queuedAt = t.timeBase

/-- An entry among 0..11 is FREE (R146). -/
abbrev State.HasRoom (s : State) : Prop := ∃ e ∈ s.sched.entries.take 12, e.state = .free

/-- An entry accepts a reply from an address with a tag byte: bits 3 to 0 are its index and bit 4 its generation (R150,
section 11.9). -/
abbrev State.Accepts (s : State) (i : Nat) (e : Entry) (address : BitVec 6) (tag : Byte) : Prop :=
  i < 16 ∧ s.sched.entries[i]? = some e ∧ tag.toNat = i + (if e.gen then 16 else 0) ∧ e.sentOnce = true ∧
    (e.state = .sent ∨ e.state = .queued) ∧ e.replyAddr = some address.toNat

/-- The bytes between a frame's start and its stop condition pass the check and spell these fields (R167, R168, section
11.9): bits 7–6 of the address byte are the type, 1 for REPLY, 2 for COMMAND and 3 for ANNOUNCE; the length byte counts the
payload, at most 12 bytes; the CRC-8 covers what stands before it. `code` is the op or the status. -/
def FieldBytes (type : Nat) (address : BitVec 6) (tag code : Byte) (payload bytes : List Byte) : Prop :=
  let body := (BitVec.ofNat 2 type ++ address) :: tag :: code :: BitVec.ofNat 8 payload.length :: payload
  1 ≤ type ∧ type ≤ 3 ∧ payload.length ≤ 12 ∧ bytes = body ++ [crc8 body]

/-- The bytes of a frame fail the check (R168). -/
def FieldFails (bytes : List Byte) : Prop :=
  ∀ type address tag code payload, ¬ FieldBytes type address tag code payload bytes

/-- No announce window is in progress: no INVITE has an entry of the table or waits for one (R131). -/
def State.NoWindowOpen (s : State) : Prop :=
  (∀ e ∈ s.sched.entries, e.state ≠ .free → e.op ≠ .invite) ∧ ∀ w ∈ s.sched.waits, w.req.op ≠ .invite

/-- What the loss of line power makes of an admitted run, with its elapsed seconds taken (R44): it leaves when it holds an
outcome, when the cycle has brought remaining_s to 0, or when its expiry timer has fallen due, and a run found in its zone
afterwards is a new one; else it is SUSPENDED with LINE, and with HOLD if a hold applies to it. -/
def State.RunCutOff (q : Run) (s t : State) : Prop :=
  let left := q.remainingS - s.elapsed q
  let leaves := (∃ d, q.destination = some d ∧ d ≠ .waiting ∧ d ≠ .soaking ∧ d ≠ .suspended) ∨
    (q.state = .opened ∧ left = 0) ∨ q.enqueuedAt + 86400 ≤ s.clock.uptime
  (leaves → ∀ q', t.run? q.zone = some q' → q'.origin = .auto ∧ q'.enqueuedAt = s.clock.uptime ∧ q'.opened = false) ∧
    (¬ leaves → ∃ q', t.run? q.zone = some q' ∧
      { q' with seq := q.seq } =
        { q with state := .suspended, suspLine := true, suspHold := s.hold.applies q.origin, remainingS := left,
                 closePending := false, destination := none, cycleS := none })

/-- What the loss of line power leaves of the blocks that the line tells of it (R32, R44, R67, R121, R141, R158, R160). -/
def State.PowerLost (s t : State) : Prop :=
  (∀ e ∈ t.sched.entries, e.state = .free) ∧ t.sched.entries.map (·.gen) = s.sched.entries.map (·.gen) ∧
    t.sched.waits = [] ∧ t.sched.strays = s.sched.strays ∧
    t.devs.table = (s.devs.table.map fun o => o.map fun d =>
      { d with state := .unplaced, shortAddr := none, missCount := 0 }) ∧
    t.devs.releasing = [] ∧ t.devs.sweepEnd = none ∧ t.devs.created = s.devs.created ∧ t.poller.polls = [] ∧
    t.seqr.spacingEnd = none ∧
    (∀ z q, s.run? z = some q → q.state = .opening ∨ q.state = .opened ∨ q.state = .closing → s.RunCutOff q t) ∧
    (s.BudgetOk → t.arb.flowSum = 0 ∧ t.arb.openCount = 0 ∧ t.arb.openOrder = [] ∧ t.seqr.records = [])

/-- What a stop cause that offers a destination makes of a run, by the run's state (R39, R42, R45, R59, R111). A run that
is not admitted, or is OPENING with no OPEN handed out, leaves with an outcome, is SUSPENDED by a hold, or waits; one
OPENING with its OPEN in flight is marked to close; one that is OPEN closes, with its elapsed seconds taken and COMPLETE
offered too when nothing remains (R57); one that is CLOSING is offered the destination (R60). -/
def State.Stopped (d : Dest) (q : Run) (s t : State) : Prop :=
  let becomes (q' : Run) : Prop := ∃ r, t.run? q.zone = some r ∧ { r with seq := q.seq } = q'
  let released := { q with closePending := false, destination := none, cycleS := none }
  let pausing := d = .suspended ∨ d = .waiting
  (q.state = .waiting ∨ q.state = .soaking ∨ q.state = .suspended →
    (¬ pausing → d ≠ .soaking → t.run? q.zone = none) ∧
    (d = .suspended → becomes { q with state := .suspended, suspHold := true, soakEnd := none }) ∧
    (d = .waiting → becomes q)) ∧
  (q.state = .opening → s.openHanded q.zone = false →
    (¬ pausing → d ≠ .soaking → t.run? q.zone = none) ∧
    (d = .suspended → s.clock.uptime < q.enqueuedAt + 86400 → q.soakEnd = none →
      becomes { released with state := .suspended, suspHold := true } ∧ t.record? q.zone = none) ∧
    (d = .waiting → s.clock.uptime < q.enqueuedAt + 86400 →
      becomes { released with state := .waiting } ∧ t.record? q.zone = none)) ∧
  (∀ x, q.state = .opening → s.record? q.zone = some x → x.openHanded = true → x.inFlight ≠ none →
    becomes { q with closePending := true, destination := Dest.offer q.destination d }) ∧
  (∀ x start len, q.state = .opened → s.record? q.zone = some x → (∃ o ∈ x.outputs, o.status = .opened) →
    x.cycleStart = some start → q.cycleS = some len → q.destination = none →
    let left := q.remainingS - min (s.clock.uptime - start) len
    becomes { q with state := .closing, remainingS := left, closePending := false,
                     destination := if left = 0 then Dest.offer (some d) .complete else some d } ∧
    ∃ x', t.record? q.zone = some x' ∧ x'.closeLimitAt = some (s.timeBase + 20000) ∧ x'.cycleEnd = none) ∧
  (q.state = .closing → becomes { q with destination := Dest.offer q.destination d })

/-- RAIN or WIND has started between two states (R90, R91). -/
abbrev State.PauseStarts (s t : State) : Prop :=
  (s.hold.rainActive = false ∧ t.hold.rainActive = true) ∨ (s.hold.wind = false ∧ t.hold.wind = true)

/-- The start of RAIN or WIND on a run (R42): it is suspended unless its origin is MANUAL; a MANUAL run keeps its record while
it is admitted, when no scan can move it. -/
abbrev State.PausedBy (s : State) (q : Run) (t : State) : Prop :=
  (q.origin ≠ .manual → s.Stopped .suspended q t) ∧ (q.origin = .manual → q.admitted = true → t.run? q.zone = some q)

/-- A day rollover with its day count, told with an empty queue: every zone's daily counts are cleared and its days since a
run counted up to 255 (R16), and exactly the zones that the timed decision finds due have a TIMED run of the scaled
length (R18). -/
def State.RolledOver (count : Nat) (s t : State) : Prop :=
  ∀ z r, s.zone? z = some r →
    let days := min 255 (r.daysSinceRun + count)
    let length := r.cfg.timedS * s.hold.factor / 100
    let due := r.state = .monitor ∧ (r.mode = .timed ∨ r.estimate = none) ∧ 0 < r.cfg.timedIntervalDays ∧
      r.cfg.timedIntervalDays ≤ days ∧ s.hold.freeze = false ∧ s.supply.state ≠ .tripped ∧ 0 < length
    (∃ r', t.zone? z = some r' ∧ r'.runsToday = 0 ∧ r'.capped = false ∧ r'.daysSinceRun = days ∧ r'.cfg = r.cfg) ∧
    (due ↔ ∃ q ∈ t.arb.runs, q.zone = z) ∧
    (∀ q ∈ t.arb.runs, q.zone = z → q.origin = .timed ∧ q.totalS = length ∧ q.remainingS = length ∧
      q.split = true ∧ q.respectWindows = true)

/-- Each of a state's zones that names a device in its outputs, at the loss of the device by misses (R20): without a run,
in MONITOR or SETTLING, it is FAULTED with DEVICE_LOST; so is one whose run is not admitted, and the run has left; one
whose run is admitted is FAULTED with STUCK by a close failure, which trips the supply (R66, R73). -/
def State.ZonesLose (n : Serial) (s t : State) : Prop :=
  ∀ z r, 1 ≤ z → z ≤ 48 → s.zone? z = some r → (∃ ref ∈ r.outputs, ref.serial = n) →
    let faulted (reason : FaultReason) : Prop :=
      t.run? z = none ∧ ∃ r', t.zone? z = some r' ∧ r'.state = .faulted ∧ r'.faultReason = some reason
    (s.run? z = none → r.state = .monitor ∨ r.state = .settling → faulted .deviceLost) ∧
    (∀ q, s.run? z = some q → q.admitted = false → faulted .deviceLost) ∧
    (∀ q, s.run? z = some q → q.admitted = true → faulted .stuck ∧ t.supply.state = .tripped)

/-- The command ends the last attempt of the transaction whose turn runs, with no answer: the 30 ms, the 20 ms or a frame
that fails its check at the third attempt, or the eighth lost arbitration, or the first of either with no_retry (R149,
R153, R154). `checks` of its attempts ended in a reply that failed its check; a lost arbitration reports none (R135). -/
def State.FailsTurn (s : State) (u : Turn) (e : Entry) (c : Instr) (checks : Nat) : Prop :=
  s.line.turn = some u ∧ s.entry? u.entry = some e ∧
    ((u.phase = .awaiting ∧ (e.noRetry = true ∨ 2 ≤ e.attempts) ∧
        ((c = .turnTimeout ∧ checks = e.badChecks ∧ u.replyLimit = none ∧ ∃ w, u.waitEnd = some w ∧ w ≤ s.timeBase) ∨
          (c = .replyTooLong ∧ checks = e.badChecks + 1 ∧ ∃ w, u.replyLimit = some w ∧ w ≤ s.timeBase) ∨
          (c = .fieldBadFrame ∧ checks = e.badChecks + 1 ∧ s.line.state.powered = true))) ∨
      (u.phase = .sending ∧ (e.noRetry = true ∨ 7 ≤ e.arbLosses) ∧ c = .arbitrationLost ∧ checks = 0))

/-- What the loss of line power clears on the line itself (R158, R160). -/
abbrev Line.cleared (l : Line) : Prop :=
  l.foreignBusy = false ∧ l.guardEnd = none ∧ l.reservation = none ∧ l.turn = none

/-- RAIN after an event that changed its sources, by the table of R90: active with no timer while a source is asserted;
as it was when none was asserted before either; and when the last source has gone, releasing if CONTACT or OBSERVED was
among those that went and release_min is above 0, and ended otherwise. -/
def HoldUnit.RainFollows (old new : HoldUnit) (now : Nat) : Prop :=
  (new.sources.isEmpty = false → new.rainActive = true ∧ new.releaseEnd = none) ∧
    (new.sources.isEmpty = true → old.sources.isEmpty = true →
      new.rainActive = old.rainActive ∧ new.releaseEnd = old.releaseEnd) ∧
    (new.sources.isEmpty = true → old.sources.isEmpty = false →
      if (old.sources.contact || old.sources.observed) && 0 < new.cfg.releaseMin then
        new.rainActive = true ∧ new.releaseEnd = some (now + new.cfg.releaseMin * 60)
      else new.rainActive = false ∧ new.releaseEnd = none)

/-- The HOLD_EVENT notices of RAIN and WIND between two Hold Units, those that start a hold or resume RAIN (R90, R91, R97). -/
def HoldUnit.starts (old new : HoldUnit) : List Notice :=
  (if !old.rainActive && new.rainActive then [.holdEvent .rain .start (some new.sources) none]
    else if old.releaseEnd.isSome && new.rainActive && new.releaseEnd.isNone then
      [.holdEvent .rain .resumed (some new.sources) none]
    else []) ++
    if !old.wind && new.wind then [.holdEvent .wind .start none none] else []

/-- The HOLD_EVENT notices of RAIN and WIND between two Hold Units, those that end a hold or release RAIN (R90, R91,
R97). -/
def HoldUnit.ends (old new : HoldUnit) : List Notice :=
  (if old.rainActive && !new.rainActive then [.holdEvent .rain .ended (some new.sources) none]
    else if old.releaseEnd.isNone && new.releaseEnd.isSome then
      [.holdEvent .rain .releasing (some new.sources) (some new.cfg.releaseMin)]
    else []) ++
    if old.wind && !new.wind then [.holdEvent .wind .ended none none] else []

/-- The estimate of a list of channels: the mean, rounded down, of the last wetness of those that have a fresh record of
quality GOOD; absent when none has (R12). -/
def State.MeanWetness (s : State) (channels : List Ref) (estimate : Option Nat) : Prop :=
  let counted := channels.filterMap fun ref =>
    match s.channel? ref.serial ref.num with
    | some c => if c.fresh = true ∧ c.quality = .good then c.lastWetness else none
    | none => none
  estimate = if counted = [] then none else some (counted.sum / counted.length)

/-- The sensed due decision takes a run of a length for a zone in MONITOR (R14, R15). -/
def State.SensedRun (s : State) (r : Zone) (length : Nat) : Prop :=
  r.mode = .sensed ∧ (∃ e, r.estimate = some e ∧ e < r.cfg.low ∧
      length = min ((r.cfg.high - e) * r.cfg.secPerPoint * s.hold.factor / 100) r.cfg.maxRunS) ∧
    r.runsToday < r.cfg.maxRunsPerDay ∧ s.hold.freeze = false ∧ s.supply.state ≠ .tripped ∧ 0 < length

/-- The sensed due decision finds the zone dry with its runs of the day used up (R14). -/
def Zone.Capped (r : Zone) : Prop :=
  r.mode = .sensed ∧ (∃ e, r.estimate = some e ∧ e < r.cfg.low) ∧ r.cfg.maxRunsPerDay ≤ r.runsToday

/-- What entering MONITOR with a due decision, or being judged there, leaves of a zone: a run and DUE when the decision
takes one, else MONITOR with the capped flag as R14 gives and the rest of the queue as it was (R2, R14, R15, R30). The
record `r` is the zone's before the decision, `s` the state it is made in, `t` the state after the event. -/
def State.Judged (z : Nat) (r : Zone) (s t : State) : Prop :=
  ∃ r', t.zone? z = some r' ∧ r'.cfg = r.cfg ∧ r'.outputs = r.outputs ∧ r'.channels = r.channels ∧ r'.mode = r.mode ∧
    r'.estimate = r.estimate ∧ r'.runsToday = r.runsToday ∧ r'.daysSinceRun = r.daysSinceRun ∧
    (∀ length, s.SensedRun r length → r'.state = .due ∧
      ∃ q ∈ t.arb.runs, q.zone = z ∧ q.origin = .auto ∧ q.totalS = length ∧ q.remainingS = length ∧ q.split = true ∧
        q.respectWindows = true ∧ q.enqueuedAt = s.clock.uptime) ∧
    ((∀ length, ¬ s.SensedRun r length) → r'.state = .monitor ∧ t.arb = s.arb ∧
      (r.Capped → r'.capped = true) ∧ (¬ r.Capped → r'.capped = r.capped))

end Sys2Proof.Machine

namespace Sys2Proof

open Sys2Proof.Machine

/-- The frame of KIND, TAG and payload that a command of the host brings to HRX; none for the other commands. A KIND in
0x01..0x1F is no unknown kind (R175, log 11). -/
def Instr.frame? : Instr → Option HostFrame
  | .ident tag p => some (requestFrame 0x01#8 tag p)
  | .status tag p => some (requestFrame 0x02#8 tag p)
  | .setTime tag p => some (requestFrame 0x03#8 tag p)
  | .weather tag p => some (requestFrame 0x04#8 tag p)
  | .holdConfig tag p => some (requestFrame 0x05#8 tag p)
  | .holdSet tag p => some (requestFrame 0x06#8 tag p)
  | .holdClear tag p => some (requestFrame 0x07#8 tag p)
  | .supplySet tag p => some (requestFrame 0x08#8 tag p)
  | .supplyGet tag p => some (requestFrame 0x09#8 tag p)
  | .tripClear tag p => some (requestFrame 0x0A#8 tag p)
  | .zoneSet tag p => some (requestFrame 0x0B#8 tag p)
  | .zoneGet tag p => some (requestFrame 0x0C#8 tag p)
  | .zoneMap tag p => some (requestFrame 0x0D#8 tag p)
  | .faultClear tag p => some (requestFrame 0x0E#8 tag p)
  | .runNow tag p => some (requestFrame 0x0F#8 tag p)
  | .cancelRun tag p => some (requestFrame 0x10#8 tag p)
  | .cancelAll tag p => some (requestFrame 0x11#8 tag p)
  | .gridWindow tag p => some (requestFrame 0x12#8 tag p)
  | .gridWrite tag p => some (requestFrame 0x13#8 tag p)
  | .gridRead tag p => some (requestFrame 0x14#8 tag p)
  | .gridSwap tag p => some (requestFrame 0x15#8 tag p)
  | .deviceList tag p => some (requestFrame 0x16#8 tag p)
  | .deviceGet tag p => some (requestFrame 0x17#8 tag p)
  | .enrol tag p => some (requestFrame 0x18#8 tag p)
  | .retire tag p => some (requestFrame 0x19#8 tag p)
  | .sweep tag p => some (requestFrame 0x1A#8 tag p)
  | .probeRead tag p => some (requestFrame 0x1B#8 tag p)
  | .deviceQuery tag p => some (requestFrame 0x1C#8 tag p)
  | .lineSet tag p => some (requestFrame 0x1D#8 tag p)
  | .noticeFilter tag p => some (requestFrame 0x1E#8 tag p)
  | .resetPlan tag p | .resetField tag p | .resetAll tag p => some (requestFrame 0x1F#8 tag p)
  | .unknownKind kind tag p => if isRequestKind kind then none else some (requestFrame kind tag p)
  | _ => none

/-- The command's bytes are taken one by one, so that the frames they complete are commands of their own: those of
LINK_ERROR, and those of a host frame that arrives inside a frame in progress (R173, log 9). -/
def Instr.bytewise (c : Instr) (s : State) : Bool :=
  match c with
  | .linkError _ => true
  | _ =>
    match s.link.receiver with
    | .hunting => false
    | .inFrame _ last => c.frame?.isSome && s.timeBase ≤ last + 50

/-! ## Classes of commands -/

/-- The command performs a power-on reset in this state (R183). -/
def Instr.resets (c : Instr) (s : State) : Bool :=
  match c with
  | .powerOnReset => true
  | .hostFrameSent =>
    match s.link.tx with
    | some f => f.resets
    | none => false
  | .linkBreak => !s.link.inBreak && s.link.replies.any (·.resets)
  | _ => false

/-- The commands that set the plan clock (R102, R110). Its seconds pass in the step on an empty queue. -/
def Instr.setsClock : Instr → Bool
  | .setTime .. | .slotBoundary => true
  | _ => false

/-- The commands that change the Window Grid (R105 to R110). -/
def Instr.setsGrid : Instr → Bool
  | .gridWindow .. | .gridWrite .. | .gridRead .. | .gridSwap .. | .setTime .. | .slotBoundary => true
  | _ => false

/-- The commands that change the Hold Unit (R84 to R94, R99). -/
def Instr.setsHolds : Instr → Bool
  | .weather .. | .holdConfig .. | .holdSet .. | .holdClear .. | .rainInChange .. | .debounceExpiry | .releaseExpiry
  | .weatherStale | .manualHoldExpiry | .resetPlan .. | .resetField .. | .resetAll .. => true
  | _ => false

/-- The commands that change a zone's configuration or map (R5 to R9). -/
def Instr.setsZones : Instr → Bool
  | .zoneSet .. | .zoneMap .. => true
  | _ => false

/-- The commands that change what the flow meter holds (R76, R81). -/
def Instr.setsMeter : Instr → Bool
  | .supplySet .. | .flowPulse | .flowWindowEnd => true
  | _ => false

/-- The commands that change quiet_allowed, the fault latch and the overcurrents list (R161, R163). -/
def Instr.setsLine : Instr → Bool
  | .lineSet .. | .overcurrent => true
  | _ => false

end Sys2Proof
end

