-- ==== Sys2Proof/Certificates/Slice0/Obligations.lean ====
section
/-!
DEFINITION. The statements about the KT48, each a proposition of its own, chapter by chapter; the words they are written in
stand in Sys2Proof/Safety.lean.
-/
open Sys2Proof Sys2Proof.Machine

/-! ## The step -/

/-- A step with a command at the front of the queue is that command's effect on the state with the queue's rest. -/
def Obligations.StepRunsTheFrontCommand : Prop :=
  ∀ (c : Instr) (s : State), step { s with pending := c :: s.pending } = exec c s

/-- Every command answers a next state and leaves the queue alone: no command faults and none is refused. No command
leaves a mark of an event behind it; the marks are the model's own bookkeeping inside a command (its choice, log 30). -/
def Obligations.EveryCommandAnswersNextAndLeavesNoMark : Prop :=
  (∀ (c : Instr) (s : State), ∃ t, exec c s = .next t ∧ t.pending = s.pending) ∧
  (∀ (c : Instr) (s t : State), s.Settled → exec c s = .next t → t.Settled)

/-- The model's choice (log 1): on an empty queue one millisecond of the time base passes. Nothing but the clock, the
count of free values and the queue changes besides; uptime rises at each thousandth millisecond (R100). The plan clock's
second (R101): an UNSET clock stands; a valid one counts seconds and minutes, and the second that would end a half hour
raises SLOT_BOUNDARY at the front of the queue (the model's form, log 2). -/
def Obligations.EmptyQueueIsOneMillisecond : Prop :=
  (∀ s : State, s.pending = [] → ∃ t, step s = .next t ∧
     t = { s with timeBase := s.timeBase + 1, clock := t.clock, freeCount := t.freeCount, pending := t.pending } ∧
     ((s.timeBase + 1) % 1000 ≠ 0 → t.clock = s.clock ∧ t.freeCount = s.freeCount) ∧
     ((s.timeBase + 1) % 1000 = 0 → s.clock.uptime < 4294967295 →
       t.clock.uptime = s.clock.uptime + 1 ∧ t.freeCount = s.freeCount)) ∧
  (∀ s : State, s.pending = [] → (s.timeBase + 1) % 1000 = 0 → s.clock.uptime < 4294967295 →
     ∃ t, step s = .next t ∧
       (s.clock.valid = false → t.clock = { s.clock with uptime := s.clock.uptime + 1 }) ∧
       (s.clock.valid = true → s.clock.second ≠ 59 →
         t.clock = { s.clock with uptime := s.clock.uptime + 1, second := s.clock.second + 1 }) ∧
       (s.clock.valid = true → s.clock.second = 59 → s.clock.minute % 30 ≠ 29 →
         t.clock = { s.clock with uptime := s.clock.uptime + 1, second := 0, minute := s.clock.minute + 1 }) ∧
       (s.clock.valid = true → s.clock.second = 59 → s.clock.minute % 30 = 29 →
         t.clock = { s.clock with uptime := s.clock.uptime + 1 } ∧ ∃ rest, t.pending = .slotBoundary :: rest))

/-- The model's choice (logs 1 and 22): each timer that has fallen due when a millisecond has passed has its command in
the queue, the 50 ms of a host frame in progress among them (R173); next_window has its command only while no INVITE is
outstanding (log 57). -/
def Obligations.TimersThatFallDueAreRaised : Prop :=
  ∀ s t : State, s.pending = [] → step s = .next t →
    (∀ z r e, 1 ≤ z → z ≤ 48 → t.zone? z = some r → r.state = .settling → r.settleEnd = some e → e ≤ t.clock.uptime →
      .settleExpiry z ∈ t.pending) ∧
    (∀ r ∈ t.arb.runs, r.enqueuedAt + 86400 ≤ t.clock.uptime → r.state = .waiting ∨ r.state = .soaking ∨
      r.state = .suspended → .runExpiry r.zone ∈ t.pending) ∧
    (∀ r ∈ t.arb.runs, ∀ e, r.state = .soaking → r.soakEnd = some e → e ≤ t.clock.uptime →
      .soakExpiry r.zone ∈ t.pending) ∧
    (∀ r ∈ t.arb.runs, ∀ q e, t.record? r.zone = some q → r.state = .opened → q.cycleEnd = some e →
      e ≤ t.clock.uptime → .cycleTimerExpiry r.zone ∈ t.pending) ∧
    (∀ r ∈ t.arb.runs, ∀ q e, t.record? r.zone = some q → q.closeLimitAt = some e → e ≤ t.timeBase →
      .closeLimitExpiry r.zone ∈ t.pending) ∧
    (∀ e, t.supply.state = .lead → t.supply.timerEnd = some e → e ≤ t.clock.uptime → .leadExpiry ∈ t.pending) ∧
    (∀ e, t.supply.state = .lag → t.supply.timerEnd = some e → e ≤ t.clock.uptime → .lagExpiry ∈ t.pending) ∧
    (t.supply.windowEnd ≤ t.clock.uptime → .flowWindowEnd ∈ t.pending) ∧
    (∀ e, t.hold.debounceEnd = some e → e ≤ t.timeBase → .debounceExpiry ∈ t.pending) ∧
    (∀ e, t.hold.releaseEnd = some e → e ≤ t.clock.uptime → .releaseExpiry ∈ t.pending) ∧
    (∀ w, t.hold.weather = some w → w.validUntil ≤ t.clock.uptime → .weatherStale ∈ t.pending) ∧
    (∀ e, t.hold.manual = true → t.hold.manualEnd = some e → e ≤ t.clock.uptime → .manualHoldExpiry ∈ t.pending) ∧
    (∀ r ∈ t.poller.polls, ∀ e, r.state = .waiting → r.nextPoll = some e → e ≤ t.clock.uptime →
      .pollDue r.serial ∈ t.pending) ∧
    (∀ c e, some c ∈ t.poller.channels → c.fresh = true → c.staleAt = some e → e ≤ t.clock.uptime →
      .stalenessExpiry c.serial c.channel ∈ t.pending) ∧
    (∀ e, t.devs.sweepEnd = some e → e ≤ t.clock.uptime → .sweepEnd ∈ t.pending) ∧
    (∀ e, t.line.stateEnd = some e → e ≤ t.timeBase →
      (t.line.state = .rising → .riseDone ∈ t.pending) ∧ (t.line.state = .sweeping → .sweepDone ∈ t.pending) ∧
      (t.line.state = .waking → .wakeDone ∈ t.pending) ∧ (t.line.state = .fault → .coolDownDone ∈ t.pending) ∧
      (t.line.state = .off → .restart ∈ t.pending)) ∧
    (∀ i e x, i < 16 → t.sched.entries[i]? = some x → x.state = .holding → x.holdUntil = some e → e ≤ t.timeBase →
      .holdExpiry i ∈ t.pending) ∧
    (∀ u e, t.line.turn = some u → u.replyLimit = some e → e ≤ t.timeBase → .replyTooLong ∈ t.pending) ∧
    (∀ u e, t.line.turn = some u → u.phase ≠ .announceSlot → u.replyLimit = none → u.waitEnd = some e →
      e ≤ t.timeBase → .turnTimeout ∈ t.pending) ∧
    (∀ u e, t.line.turn = some u → u.phase = .announceSlot → u.replyLimit = none → u.waitEnd = some e →
      e ≤ t.timeBase → .announceSlotEnd .empty ∈ t.pending) ∧
    (∀ e, t.seqr.spacingEnd = some e → e ≤ t.timeBase → .spacingExpiry ∈ t.pending) ∧
    (∀ e, t.line.guardEnd = some e → e ≤ t.timeBase → .guardExpiry ∈ t.pending) ∧
    (∀ e, t.line.foreignLimit = some e → e ≤ t.timeBase → .foreignFrameCutoff ∈ t.pending) ∧
    (∀ taken e, t.link.receiver = .inFrame taken e → e + 50 < t.timeBase → .hostByteGapTimeout ∈ t.pending) ∧
    (∀ e, t.devs.nextWindow = some e → e ≤ t.timeBase → t.line.state = .sweeping ∨ t.line.state = .on →
      (∀ d, some d ∈ t.devs.table → d.state ≠ .placing) → t.NoWindowOpen → .announceWindowDue ∈ t.pending)

/-! ## Invariants -/

/-- The machine right after reset satisfies every invariant. The values a power-on reset leaves, block by block, as the
chapters' record tables give them; the first flow window ends 10 s after it (R68). -/
def Obligations.ResetLeavesTheSpecsValues : Prop :=
  (State.reset.Inv) ∧
  (let s := State.reset
   let cfg : ZoneConfig :=
     { enabled := false, low := 300, high := 600, secPerPoint := 6, maxRunS := 1800, cycleMaxS := 0, soakS := 900,
       settleMin := 60, nominalFlow := 60, maxRunsPerDay := 2, timedIntervalDays := 0, timedS := 600 }
   s.clock = { uptime := 0, valid := false, day := 0, minute := 0, second := 0, slot := 0 } ∧
   (∀ z slot, Bank.isOpen s.grid.active z slot = true ∧ Bank.isOpen s.grid.staging z slot = true) ∧
   s.grid.zoneStart = 1 ∧ s.grid.zoneEnd = 48 ∧ s.grid.slotStart = 0 ∧ s.grid.slotEnd = 47 ∧
   s.grid.order = .acrossSlots ∧ s.grid.curZone = 1 ∧ s.grid.curSlot = 0 ∧ s.grid.swapArmed = false ∧
   s.zones.length = 48 ∧
   (∀ z ∈ s.zones, z.cfg = cfg ∧
     z.outputs = [] ∧ z.channels = [] ∧ z.state = .unmapped ∧ z.mode = .timed ∧ z.estimate = none ∧ z.runsToday = 0 ∧
     z.daysSinceRun = 0 ∧ z.faultReason = none ∧ z.capped = false ∧ z.unreachable = false ∧ z.settleEnd = none) ∧
   s.arb = { runs := [], nextSeq := 0, flowSum := 0, openCount := 0, openOrder := [] } ∧
   s.seqr = { records := [], spacingEnd := none } ∧
   s.supply.cap = 200 ∧ s.supply.maxOpen = 1 ∧ s.supply.leadS = 5 ∧ s.supply.lagS = 30 ∧ s.supply.pulsesPer10L = 0 ∧
   s.supply.tolerancePct = 30 ∧ s.supply.leakThreshold = 20 ∧ s.supply.state = .idle ∧ s.supply.tripCause = none ∧
   s.supply.timerEnd = none ∧ s.supply.windowPulses = 0 ∧ s.supply.windowDiscard = false ∧ s.supply.windowEnd = 10 ∧
   s.supply.lastFlow = none ∧ s.supply.lastKept = false ∧ s.supply.highCount = 0 ∧ s.supply.lowCount = 0 ∧
   s.supply.leakCount = 0 ∧ s.supply.lowAlarmed = false ∧ s.mvOut = false ∧
   s.hold = { weather := none,
              cfg := { rainThreshold := 20, probThreshold := 70, windThreshold := 40, freezeOn := 2, freezeOff := 4,
                       releaseMin := 240 },
              rainActive := false, sources := { contact := false, observed := false, forecast := false },
              releaseEnd := none, contactClosed := false, debounceEnd := none, wind := false, freeze := false,
              manual := false, manualEnd := none } ∧
   s.poller.channels = List.replicate 32 none ∧ s.poller.polls = [] ∧
   s.devs.table = List.replicate 40 none ∧ s.devs.created = 0 ∧ s.devs.floor = 0#32 ∧ s.devs.nextWindow = none ∧
   s.devs.sweepEnd = none ∧ s.devs.overflowReported = false ∧ s.devs.releasing = [] ∧
   s.sched.entries.length = 16 ∧ (∀ e ∈ s.sched.entries, e.state = .free ∧ e.gen = false) ∧ s.sched.waits = [] ∧
   s.sched.strays = 0 ∧
   s.line.state = .off ∧ s.line.stateEnd = none ∧ s.line.quietAllowed = false ∧ s.line.latched = false ∧
   s.line.overcurrents = [] ∧ s.line.foreignBusy = false ∧ s.line.guardEnd = none ∧ s.line.reservation = none ∧
   s.link.receiver = .hunting ∧ s.link.replies = [] ∧ s.link.slots.length = 8 ∧
   (∀ x ∈ s.link.slots, x.state = .free) ∧ s.link.notices = [] ∧ s.link.discards = 0 ∧ s.link.linkErrors = 0 ∧
   s.link.overruns = 0 ∧ s.link.filter = 0xFFFFFFFF#32 ∧ s.rdy = true)

/-- Every step keeps the sizes of the tables and the bounds of the reply queue and the Notice Queue. Every step keeps
both banks in canonical form and the cursor inside a window inside the banks. -/
def Obligations.StepsKeepTheTablesQueuesAndGrid : Prop :=
  (∀ s t : State, s.TablesOk → s.QueuesOk → step s = .next t → t.TablesOk ∧ t.QueuesOk) ∧
  (∀ s t : State, s.BanksOk → s.grid.CursorOk → step s = .next t → t.BanksOk ∧ t.grid.CursorOk)

/-- Every step keeps every setting in its range and every zone's map in form. Every step keeps the clocks in their
ranges and the slot at the half hour of the minute. Every step keeps the holds consistent. -/
def Obligations.StepsKeepSettingsClockAndHolds : Prop :=
  (∀ s t : State, s.SettingsOk → s.MapsOk → step s = .next t → t.SettingsOk ∧ t.MapsOk) ∧
  (∀ s t : State, s.clock.Ok → step s = .next t → t.clock.Ok) ∧
  (∀ s t : State, s.hold.Ok → step s = .next t → t.hold.Ok)

/-- Every step keeps a trip cause present exactly while the supply is TRIPPED, and open_count within max_open. No step
takes flow_sum above the cap or open_count above max_open, unless it lowers the cap itself; bytes on HRX that complete
frames of their own are told as those frames' commands (UntakenFramesAreOnlyCounted). -/
def Obligations.StepsKeepSupplyAndBudget : Prop :=
  (∀ s t : State, s.SupplyOk → step s = .next t → t.SupplyOk) ∧
  (∀ s t : State, (∀ c rest, s.pending = c :: rest → c.bytewise s = false) →
     s.arb.flowSum ≤ s.supply.cap → s.arb.openCount ≤ s.supply.maxOpen → step s = .next t →
     t.arb.openCount ≤ t.supply.maxOpen ∧ (s.supply.cap ≤ t.supply.cap → t.arb.flowSum ≤ t.supply.cap))

/-- Every step keeps the flow budget exact: open_count is the number of admitted runs and flow_sum the sum of their zones'
nominal flows (R32); the admitted runs are those with an actuation record (R50), each zone has at most one run and the
state that goes with it (R25, section 2.2), and open_order names runs in OPEN alone. -/
def Obligations.StepsKeepTheBudgetExact : Prop :=
  ∀ s t : State, s.BudgetOk → step s = .next t → t.BudgetOk

/-- Each part of the settings changes under its own commands alone, a power-on reset apart; bytes on HRX that complete
frames of their own are told as those frames' commands (UntakenFramesAreOnlyCounted). -/
def Obligations.SettingsChangeOnlyByTheirCommands : Prop :=
  ∀ (c : Instr) (s t : State), c.resets s = false → c.bytewise s = false → exec c s = .next t →
    t.timeBase = s.timeBase ∧ t.freeCount = s.freeCount ∧ t.clock.uptime = s.clock.uptime ∧
    (c.setsClock = false → t.clock = s.clock) ∧
    (c.setsGrid = false → t.grid = s.grid) ∧
    (c.setsHolds = false → t.hold = s.hold) ∧
    ((∀ level, c ≠ .rainInChange level) → t.rainIn = s.rainIn) ∧
    (c.setsZones = false → t.zones.map (fun r => (r.cfg, r.outputs, r.channels, r.mode)) =
      s.zones.map fun r => (r.cfg, r.outputs, r.channels, r.mode)) ∧
    ((∀ tag p, c ≠ .supplySet tag p) → t.supply.cap = s.supply.cap ∧ t.supply.maxOpen = s.supply.maxOpen ∧
      t.supply.leadS = s.supply.leadS ∧ t.supply.lagS = s.supply.lagS ∧
      t.supply.pulsesPer10L = s.supply.pulsesPer10L ∧ t.supply.tolerancePct = s.supply.tolerancePct ∧
      t.supply.leakThreshold = s.supply.leakThreshold) ∧
    (c.setsMeter = false → t.supply.windowPulses = s.supply.windowPulses ∧ t.supply.windowEnd = s.supply.windowEnd ∧
      t.supply.lastFlow = s.supply.lastFlow ∧ t.supply.lastKept = s.supply.lastKept) ∧
    (c.setsLine = false → t.line.quietAllowed = s.line.quietAllowed ∧ t.line.latched = s.line.latched ∧
      t.line.overcurrents = s.line.overcurrents)

/-! ## The host link (chapter 11) -/

/-- IDENT is answered with the part's constants and STATUS with the part's state, and neither changes any state but by
its reply (R181). -/
def Obligations.IdentAndStatusOnlyAnswer : Prop :=
  ∀ (tag : Byte) (s : State), s.Takes [] →
    OnlyAnswers (.ident tag []) 0x01#8 tag [0x57#8, 0x30#8, 0x43#8, 48#8, 40#8, 32#8, 240#8] s ∧
    OnlyAnswers (.status tag []) 0x02#8 tag
      ([u8 s.line.state.code, flagByte s.line.latched,
        u8 (s.line.overcurrents.countP fun x => s.clock.uptime ≤ x + 600),
        u8 s.supply.state.code, opt8 (s.supply.tripCause.map (·.code)),
        u8 ((if s.hold.rainActive then 1 else 0) + (if s.hold.wind then 2 else 0) + (if s.hold.freeze then 4 else 0) +
          (if s.hold.manual then 8 else 0)),
        flagByte s.clock.valid,
        u8 (s.arb.runs.countP (·.state = .waiting)), u8 (s.arb.runs.countP (·.state = .opening)),
        u8 (s.arb.runs.countP (·.state = .opened)), u8 (s.arb.runs.countP (·.state = .closing)),
        u8 (s.arb.runs.countP (·.state = .soaking)), u8 (s.arb.runs.countP (·.state = .suspended)),
        u8 ((s.devs.table.filterMap id).countP (·.state = .unplaced)),
        u8 ((s.devs.table.filterMap id).countP (·.state = .placing)),
        u8 ((s.devs.table.filterMap id).countP (·.state = .identifying)),
        u8 ((s.devs.table.filterMap id).countP (·.state = .ready)),
        u8 (s.poller.polls.countP (·.state = .deferred)), u8 s.sched.waits.length] ++
        u16 s.sched.strays ++ u16 s.link.linkErrors ++ u16 s.link.overruns ++
        [u8 s.link.discards, u8 s.link.notices.length, u8 (s.link.slots.countP (·.state ≠ .free))]) s

/-- The notice filter, the Notice Queue and the discard count at a posting and at a leaving, and in either order of the
two (R178). A reply that is queued is sent at once by an idle transmitter with an empty queue, and joins the tail of the
queue while a frame is being sent; it touches neither the notices nor the counts (R174, R179). A transmitter that has
finished a frame takes a READY at the head of the queue, which is that of an ended break (R180) or of a reset that a break
has performed (R183; that it goes first too is log 20's choice), else the oldest reply, else the oldest notice, else falls
idle; a place that frees in the reply queue is taken by the slot that became COMPLETE first, and the others keep their order (R177, R179). That an idle transmitter takes a
reply or a notice in the step that queues it is the model's reading (log 8). -/
def Obligations.NoticesArePostedAndTaken : Prop :=
  (∀ (n : Notice) (l : Link), l.inBreak = false →
     let passes := n.index = 0 ∨ n.index = 13 ∨ l.filter.getLsbD n.index = true
     (¬ passes → l.post n = l) ∧
     (passes → 32 ≤ l.notices.length → l.post n = { l with discards := min 255 (l.discards + 1) }) ∧
     (passes → l.notices.length < 32 → l.tx ≠ none → l.post n = { l with notices := l.notices ++ [n] }) ∧
     (passes → l.notices = [] → l.replies = [] → l.tx = none → (l.post n).tx = some n.frame) ∧
     (∀ m rest, l.notices = m :: rest →
       (l.discards = 0 → l.takeNotice = { l with tx := some m.frame, notices := rest }) ∧
       (0 < l.discards →
         l.takeNotice =
           { l with tx := some m.frame, notices := rest ++ [.noticeOverflow l.discards], discards := 0 }) ∧
       (passes → l.notices.length = 32 →
         (l.post n).takeNotice =
           { l with tx := some m.frame, notices := rest ++ [.noticeOverflow (min 255 (l.discards + 1))],
                    discards := 0 } ∧
         (0 < l.discards → l.takeNotice.post n = { l.takeNotice with discards := 1 }))) ∧
     (l.notices.length ≤ 32 → (l.post n).notices.length ≤ 32 ∧ l.takeNotice.notices.length ≤ 32)) ∧
  (∀ (f : HostFrame) (l : Link),
     (l.tx ≠ none → l.queueReply f = { l with replies := l.replies ++ [f] }) ∧
     (l.tx = none → l.replies = [] → l.completeOrder = [] → l.queueReply f = { l with tx := some f })) ∧
  (∀ (s : State) (f : HostFrame), s.link.tx = some f → f.resets = false →
     ∃ t, exec .hostFrameSent s = .next t ∧ t = { s with link := t.link } ∧
       (∀ cause more, s.link.notices = .ready cause :: more →
         let number := if cause = .power then 0#8 else if cause = .command then 1#8 else 2#8
         t.link.tx = some { kind := 0x40#8, tag := 0#8, payload := [number], resets := false } ∧
         t.link.replies = s.link.replies ∧ t.link.slots = s.link.slots ∧
         t.link.completeOrder = s.link.completeOrder ∧
         (s.link.discards = 0 → t.link.notices = more)) ∧
       (∀ g rest, s.link.replies = g :: rest → (∀ cause more, s.link.notices ≠ .ready cause :: more) →
         t.link.tx = some g ∧ t.link.notices = s.link.notices ∧
         (s.link.completeOrder = [] → t.link.replies = rest ∧ t.link.slots = s.link.slots) ∧
         (∀ i more x reply, s.link.completeOrder = i :: more → rest.length = 3 → s.link.slots[i]? = some x →
           x.state = .complete → x.reply = some reply →
           t.link.replies = rest ++ [{ kind := x.kind.replyKind, tag := x.tag, payload := reply, resets := false }] ∧
           t.link.slots = s.link.slots.set i Slot.blank ∧ t.link.completeOrder = more)) ∧
       (∀ n rest, s.link.replies = [] → s.link.notices = n :: rest → t.link.tx = some n.frame) ∧
       (s.link.replies = [] → s.link.notices = [] → t.link = { s.link with tx := none }))

/-- NOTICE_FILTER: always accepted; the mask in force, with the bits of READY and NOTICE_OVERFLOW set, is in the reply
and tests every later posting; the queued notices stay; a power-on reset and a break let every kind pass (R182). -/
def Obligations.NoticeFilterSetsTheMask : Prop :=
  (∀ (b0 b1 b2 b3 tag : Byte) (s : State), s.Takes [b0, b1, b2, b3] →
    let mask : BitVec 32 := (b0 ++ b1 ++ b2 ++ b3) ||| 0x00002001#32
    let answer := replyFrame 0x1E#8 tag .ok
      [mask.extractLsb' 24 8, mask.extractLsb' 16 8, mask.extractLsb' 8 8, mask.extractLsb' 0 8]
    exec (.noticeFilter tag [b0, b1, b2, b3]) s =
        .next { s with link := Link.queueReply answer { s.link with filter := mask } } ∧
      (∀ f l, (Link.queueReply f l).notices = l.notices ∧ (Link.queueReply f l).filter = l.filter)) ∧
  (∀ (n : Notice) (l : Link), l.inBreak = false →
    (n.index = 0 ∨ n.index = 13 ∨ l.filter.getLsbD n.index = true ↔ l.passes n = true) ∧
    (l.passes n = false → l.post n = l)) ∧
  (∀ s : State, ∃ t, exec .powerOnReset s = .next t ∧ t.link.filter = 0xFFFFFFFF#32) ∧
  (∀ s : State, s.link.inBreak = false → ∃ t, exec .linkBreak s = .next t ∧ t.link.filter = 0xFFFFFFFF#32) ∧
  (∀ (s : State) (f : HostFrame), s.link.tx = some f → f.resets = true →
    ∃ t, exec .hostFrameSent s = .next t ∧ t.link.filter = 0xFFFFFFFF#32)

/-- A payload of a length other than the table's is answered BAD_LENGTH, and nothing else is done (R175). A KIND that is
no request kind is answered UNKNOWN_KIND with reply KIND 0x80, and nothing else is done (R175). -/
def Obligations.WrongLengthOrKindIsRefused : Prop :=
  (∀ (tag : Byte) (p : List Byte) (s : State), s.Takes p →
     (p.length ≠ 0 →
       RefusedWith (.ident tag p) 0x01#8 tag .badLength s ∧ RefusedWith (.status tag p) 0x02#8 tag .badLength s ∧
       RefusedWith (.holdClear tag p) 0x07#8 tag .badLength s ∧ RefusedWith (.supplyGet tag p) 0x09#8 tag .badLength s ∧
       RefusedWith (.tripClear tag p) 0x0A#8 tag .badLength s ∧ RefusedWith (.cancelAll tag p) 0x11#8 tag .badLength s ∧
       RefusedWith (.gridSwap tag p) 0x15#8 tag .badLength s ∧ RefusedWith (.sweep tag p) 0x1A#8 tag .badLength s) ∧
     (p.length ≠ 1 →
       RefusedWith (.zoneGet tag p) 0x0C#8 tag .badLength s ∧ RefusedWith (.faultClear tag p) 0x0E#8 tag .badLength s ∧
       RefusedWith (.cancelRun tag p) 0x10#8 tag .badLength s ∧ RefusedWith (.deviceList tag p) 0x16#8 tag .badLength s ∧
       RefusedWith (.resetPlan tag p) 0x1F#8 tag .badLength s ∧ RefusedWith (.resetField tag p) 0x1F#8 tag .badLength s ∧
       RefusedWith (.resetAll tag p) 0x1F#8 tag .badLength s) ∧
     (p.length ≠ 2 →
       RefusedWith (.holdSet tag p) 0x06#8 tag .badLength s ∧ RefusedWith (.gridRead tag p) 0x14#8 tag .badLength s ∧
       RefusedWith (.lineSet tag p) 0x1D#8 tag .badLength s) ∧
     (p.length ≠ 4 →
       RefusedWith (.setTime tag p) 0x03#8 tag .badLength s ∧ RefusedWith (.deviceGet tag p) 0x17#8 tag .badLength s ∧
       RefusedWith (.retire tag p) 0x19#8 tag .badLength s ∧ RefusedWith (.deviceQuery tag p) 0x1C#8 tag .badLength s ∧
       RefusedWith (.noticeFilter tag p) 0x1E#8 tag .badLength s) ∧
     (p.length ≠ 5 →
       RefusedWith (.gridWindow tag p) 0x12#8 tag .badLength s ∧ RefusedWith (.enrol tag p) 0x18#8 tag .badLength s ∧
       RefusedWith (.probeRead tag p) 0x1B#8 tag .badLength s) ∧
     (p.length ≠ 8 →
       RefusedWith (.weather tag p) 0x04#8 tag .badLength s ∧ RefusedWith (.holdConfig tag p) 0x05#8 tag .badLength s) ∧
     (p.length ≠ 10 → RefusedWith (.supplySet tag p) 0x08#8 tag .badLength s) ∧
     (p.length ≠ 20 → RefusedWith (.zoneSet tag p) 0x0B#8 tag .badLength s) ∧
     (p.length ≠ 4 → p.length ≠ 5 → RefusedWith (.runNow tag p) 0x0F#8 tag .badLength s) ∧
     ((¬ ∃ n m : Byte, p[1]? = some n ∧ p[2 + 5 * n.toNat]? = some m ∧ p.length = 3 + 5 * (n.toNat + m.toNat)) →
       RefusedWith (.zoneMap tag p) 0x0D#8 tag .badLength s)) ∧
  (∀ (kind tag : Byte) (p : List Byte) (s : State), s.Takes p → (kind.toNat = 0 ∨ 31 < kind.toNat) →
     exec (.unknownKind kind tag p) s =
       .next { s with link := s.link.queueReply { kind := 0x80#8, tag := tag, payload := [0x01#8], resets := false } })

/-- The receiver, byte by byte: it skips bytes until a SYNC byte; a framing error, a LEN above 240, a CRC that does not
match and a gap of more than 50 ms each discard the frame in progress as a link error; each count saturates at 65535, the
receiver hunts again, and nothing else changes. A frame that is complete with its CRC matching is the command of its KIND,
however its bytes have come, or an overrun without a reply while RDY is low (R172 to R175). The model's choices: which row
of the table carries what arrives, and a frame that arrives inside another one is that one's bytes (log 9); a request in a
break is nothing, and one above 240 payload bytes is a link error (log 11); a gap timeout with no gap to end is nothing
(log 2). -/
def Obligations.UntakenFramesAreOnlyCounted : Prop :=
  (∀ (c : Instr) (f : HostFrame) (s : State), c.frame? = some f →
    let bytes : List HrxByte := f.bytes.map fun b => { value := b, stopHigh := true }
    (s.link.inBreak = true → exec c s = .next s) ∧
    (s.link.inBreak = false → 240 < f.payload.length → exec c s = .next { s with link := s.link.failed }) ∧
    (s.link.inBreak = false → f.payload.length ≤ 240 → s.link.receiver = .hunting →
      exec (.linkError bytes) s = exec c s ∧ (s.rdy = false → exec c s = .next { s with link := s.link.overran })) ∧
    (∀ taken last, s.link.inBreak = false → f.payload.length ≤ 240 → s.link.receiver = .inFrame taken last →
      (last + 50 < s.timeBase → exec c s = exec c { s with link := s.link.failed }) ∧
      (s.timeBase ≤ last + 50 → exec c s = exec (.linkError bytes) s))) ∧
  (∀ s : State, s.link.inBreak = false → s.rdy = false → exec .overrun s = .next { s with link := s.link.overran }) ∧
  (∀ (b : HrxByte) (s : State), s.link.inBreak = false →
    let run := exec (.linkError [b]) s
    (s.link.receiver = .hunting →
      (b.value ≠ 0xC3#8 ∨ b.stopHigh = false → run = .next s) ∧
      (b.value = 0xC3#8 → b.stopHigh = true →
        run = .next { s with link := { s.link with receiver := .inFrame [] s.timeBase } })) ∧
    (∀ taken last, s.link.receiver = .inFrame taken last →
      (last + 50 < s.timeBase → run = exec (.linkError [b]) { s with link := s.link.failed }) ∧
      (s.timeBase ≤ last + 50 → b.stopHigh = false → run = .next { s with link := s.link.failed }) ∧
      (∀ len rest, s.timeBase ≤ last + 50 → b.stopHigh = true → taken ++ [b.value] = len :: rest →
        let matching := rest.drop (len.toNat + 2) = crcBytes (len :: rest.take (len.toNat + 2))
        (240 < len.toNat → run = .next { s with link := s.link.failed }) ∧
        (len.toNat ≤ 240 → rest.length < len.toNat + 4 →
          run = .next { s with link := { s.link with receiver := .inFrame (len :: rest) s.timeBase } }) ∧
        (len.toNat ≤ 240 → rest.length = len.toNat + 4 →
          (¬ matching → run = .next { s with link := s.link.failed }) ∧
          (∀ c, matching → c.frame? = some (requestFrame (rest.getD 0 0#8) (rest.getD 1 0#8)
              ((rest.drop 2).take len.toNat)) →
            run = exec c { s with link := { s.link with receiver := .hunting } }) ∧
          (matching → s.rdy = false → run = .next { s with link := s.link.overran }))))) ∧
  (∀ (bytes : List HrxByte) (s : State),
    exec (.linkError []) s = .next s ∧ (s.link.inBreak = true → exec (.linkError bytes) s = .next s) ∧
    ∀ b t, exec (.linkError [b]) s = .next t → exec (.linkError (b :: bytes)) s = exec (.linkError bytes) t) ∧
  (∀ s : State,
    (∀ taken last, s.link.receiver = .inFrame taken last → last + 50 < s.timeBase →
      exec .hostByteGapTimeout s = .next { s with link := s.link.failed }) ∧
    (s.link.receiver = .hunting ∨ (∃ taken last, s.link.receiver = .inFrame taken last ∧ s.timeBase ≤ last + 50) →
      exec .hostByteGapTimeout s = .next s))

/-- A link break empties the link, keeps the frame being sent, and takes the LINK requests off the Scheduler; the other
blocks keep their state (R180, R157), but that an ON line which those requests alone kept busy goes QUIET, with its flow
window discarded (R164, R77; that leaving ON for QUIET discards it is log 43's). The end of a break queues READY with
cause LINK, the first frame after the one in progress, whatever replies are queued in between, and changes nothing else
(R180); after a break that has performed a reset (R183), it follows the READY with cause COMMAND if that is still queued,
which is the model's choice (log 20). -/
def Obligations.LinkBreakClearsTheLinkAndEndsReady : Prop :=
  (∀ s : State, s.link.inBreak = false → s.Settled → (∀ f ∈ s.link.replies, f.resets = false) →
     ∃ t, exec .linkBreak s = .next t ∧
       t.link = { receiver := .hunting, inBreak := true, replies := [],
                  slots := List.replicate 8 Slot.blank, completeOrder := [], notices := [], discards := 0,
                  linkErrors := 0, overruns := 0, filter := 0xFFFFFFFF#32,
                  resetAllPending := s.link.resetAllPending, tx := s.link.tx } ∧
       t.clock = s.clock ∧ t.grid = s.grid ∧ t.zones = s.zones ∧ t.arb = s.arb ∧ t.seqr = s.seqr ∧ t.hold = s.hold ∧
       t.poller = s.poller ∧ t.devs = s.devs ∧ t.timeBase = s.timeBase ∧ t.rainIn = s.rainIn ∧ t.todo = s.todo ∧
       t.freeCount = s.freeCount ∧
       (let calm := s.line.state = .on ∧ s.line.quietAllowed = true ∧ s.arb.runs = [] ∧
          (∀ e ∈ s.sched.entries, e.state = .free) ∧ t.sched.waits = [] ∧ s.devs.sweepEnd = none ∧
          ∀ p ∈ s.poller.polls, p.state = .waiting ∧ ∃ w, p.nextPoll = some w ∧ s.clock.uptime + 120 < w
        (¬ calm → t.supply = s.supply ∧
          t.line = { s.line with reservation := t.line.reservation, turn := t.line.turn }) ∧
        (calm → t.supply = { s.supply with windowDiscard := true } ∧
          t.line = { s.line with state := .quiet, stateEnd := none, reservation := t.line.reservation,
                                 turn := t.line.turn })) ∧
       (∀ u, s.line.turn = some u → t.line.turn = some u ∧ t.line.reservation = s.line.reservation) ∧
       t.sched.strays = s.sched.strays ∧ t.sched.waits = s.sched.waits.filter (·.req.origin ≠ .link) ∧
       (∀ (i : Nat) (e : Entry), s.sched.entries[i]? = some e → e.state ≠ .free → e.origin = .link →
         ∃ e', t.sched.entries[i]? = some e' ∧ e'.detached = true)) ∧
  (∀ s : State, s.link.inBreak = true → s.link.replies = [] → s.link.notices = [] → s.link.discards = 0 →
     ∃ t, exec .linkBreakEnd s = .next t ∧ t = { s with link := t.link } ∧ t.link.inBreak = false ∧
       (∀ f, s.link.tx = some f → t.link.tx = some f ∧ t.link.notices = [.ready .link] ∧
         (f.resets = false → ∀ (g : HostFrame) (n : Notice), ∃ u,
           exec .hostFrameSent { t with link := (t.link.queueReply g).post n } = .next u ∧
             u.link.tx = some { kind := 0x40#8, tag := 0#8, payload := [2#8], resets := false } ∧
             u.link.replies = [g])) ∧
       (s.link.tx = none →
         t.link.tx = some { kind := 0x40#8, tag := 0#8, payload := [2#8], resets := false } ∧ t.link.notices = [])) ∧
  (∀ (s : State) (f : HostFrame), s.link.inBreak = true → s.link.replies = [] → s.link.notices = [.ready .command] →
     s.link.discards = 0 → s.link.tx = some f →
     ∃ t, exec .linkBreakEnd s = .next t ∧ t = { s with link := t.link } ∧ t.link.inBreak = false ∧ t.link.tx = some f ∧
       t.link.notices = [.ready .command, .ready .link] ∧
       (f.resets = false → ∀ (g : HostFrame) (n : Notice), ∃ u v,
         exec .hostFrameSent { t with link := (t.link.queueReply g).post n } = .next u ∧
           u.link.tx = some { kind := 0x40#8, tag := 0#8, payload := [1#8], resets := false } ∧ u.link.replies = [g] ∧
         exec .hostFrameSent u = .next v ∧
           v.link.tx = some { kind := 0x40#8, tag := 0#8, payload := [2#8], resets := false } ∧ v.link.replies = [g]))

/-- A power-on reset, whether by RESETN, by the last byte of the RESET ALL reply or by a break that empties the queue of
it, leaves the reset state, with READY being sent and its cause POWER or COMMAND; RAIN_IN low starts the debounce (R98,
R183). At a break the frame in progress is sent to its end, and READY is queued behind it (R180). The queue of commands, the
pin and a break in progress are as they were, and a reset by RESETN cuts off the frame in progress (the model's choices,
logs 20 and 21).
RESET with scope ALL is answered OK, deasserts RDY and changes nothing else until its reply has been sent; a scope that
is none of the three is refused (R183). -/
def Obligations.PowerOnResetAndResetAllGiveTheResetState : Prop :=
  (∀ s : State,
     let ready (cause : Byte) : HostFrame := { kind := 0x40#8, tag := 0#8, payload := [cause], resets := false }
     let after (cause : Byte) : State :=
       { State.reset with
         pending := s.pending, rainIn := s.rainIn, freeCount := s.freeCount,
         hold := { State.reset.hold with debounceEnd := if s.rainIn = .low then some 2000 else none },
         link := { State.reset.link with inBreak := s.link.inBreak, tx := some (ready cause) } }
     exec .powerOnReset s = .next (after 0#8) ∧
     (∀ f, s.link.tx = some f → f.resets = true → exec .hostFrameSent s = .next (after 1#8)) ∧
     (s.link.inBreak = false → (∃ f ∈ s.link.replies, f.resets = true) →
       (∀ f, s.link.tx = some f →
         exec .linkBreak s = .next { after 1#8 with
           link := { State.reset.link with inBreak := true, tx := some f, notices := [.ready .command] } } ∧
         (f.resets = false → ∀ t u, exec .linkBreak s = .next t → exec .hostFrameSent t = .next u →
           u = { t with link := { t.link with tx := some (ready 1#8), notices := [] } })) ∧
       (s.link.tx = none →
         exec .linkBreak s = .next { after 1#8 with
           link := { State.reset.link with inBreak := true, tx := some (ready 1#8) } }))) ∧
  (∀ (tag : Byte) (s : State), s.Takes [2#8] →
     let answer : HostFrame := { kind := 0x9F#8, tag := tag, payload := [0x00#8], resets := true }
     exec (.resetAll tag [2#8]) s =
       .next { s with link := Link.queueReply answer { s.link with resetAllPending := true } } ∧
     (∀ t, exec (.resetAll tag [2#8]) s = .next t → t.rdy = false) ∧
     (∀ b : Byte, 2 < b.toNat → RefusedWith (.resetAll tag [b]) 0x1F#8 tag .badField s))

/-! ## The plan clock and the grid (chapter 6) -/

/-- SET_TIME: a minute above 1439 is refused; an accepted one sets the clock, and a valid clock's boundary and rollover
are applied and reported by the change of slot and of day, with the day count found from the forward distance (R102,
R103). Told with an empty queue: a boundary posts SLOT and a rollover then DAY, and a rollover by the day count does to the
zones what one at midnight does (R110, R112, R16, R18); without a rollover no zone changes. -/
def Obligations.SetTimeSetsTheClock : Prop :=
  ∀ (b0 b1 b2 b3 tag : Byte) (s : State), s.Takes [b0, b1, b2, b3] →
    let day := b0.toNat * 256 + b1.toNat
    let minute := b2.toNat * 256 + b3.toNat
    let d := (day + 65536 - s.clock.day) % 65536
    let boundary := s.clock.valid && minute / 30 ≠ s.clock.slot
    let rollover := s.clock.valid && day ≠ s.clock.day
    let count := if rollover && d ≤ 32767 then d else 0
    (1439 < minute → RefusedWith (.setTime tag [b0, b1, b2, b3]) 0x03#8 tag .badField s) ∧
    (minute ≤ 1439 → s.clock.day ≤ 65535 →
      ∃ t, exec (.setTime tag [b0, b1, b2, b3]) s = .next t ∧
        t.clock = { uptime := s.clock.uptime, valid := true, day := day, minute := minute, second := 0,
                    slot := minute / 30 } ∧
        t.Answered (replyFrame 0x03#8 tag .ok ([flagByte boundary, flagByte rollover] ++ u16 count)) ∧
        t.grid = (if boundary && s.grid.swapArmed then { s.grid with active := s.grid.staging, swapArmed := false }
          else s.grid) ∧
        t.hold = s.hold ∧ t.timeBase = s.timeBase) ∧
    (minute ≤ 1439 → s.clock.day ≤ 65535 → s.arb.runs = [] → s.zones.length = 48 → s.Settled →
      ∃ t, exec (.setTime tag [b0, b1, b2, b3]) s = .next t ∧
        (rollover = false → t.zones = s.zones ∧ t.arb = s.arb) ∧
        (rollover = true → s.RolledOver count t) ∧
        (rollover = false ∨ (∀ r ∈ s.zones, r.cfg.timedIntervalDays = 0) →
          let answered :=
            s.link.queueReply (replyFrame 0x03#8 tag .ok ([flagByte boundary, flagByte rollover] ++ u16 count))
          let slotPosted := if boundary then answered.post (.slot (minute / 30) day s.grid.swapArmed) else answered
          t.link = if rollover then slotPosted.post (.day day count) else slotPosted))

/-- SLOT_BOUNDARY at the last second of a half hour: the minute, the slot and at midnight the day step on, an armed swap
takes effect, and with no run in the queue SLOT is the one notice of a boundary that is no midnight (R101, R110). The
boundary cut, told of the only run: a run that respects windows and whose new cell is BLOCKED is stopped with WAITING, and
an admitted run that is not cut keeps its record (R111); that the cut offers WAITING also where the cycle timer falls due with
it is log 59's. At any other moment the command does nothing (the model's choice,
log 2). The rollover at midnight, told with an empty queue: every zone's daily counts are cleared and its days since a run
counted up to 255, exactly the zones that the timed decision finds due have a TIMED run of the scaled length, and DAY
follows SLOT (R16, R18, R112); that the SLOT of midnight carries the new day is the model's reading (log 17). -/
def Obligations.SlotBoundaryStepsTheClockAndTheDay : Prop :=
  (∀ s : State,
     let c := s.clock
     (c.valid = true → c.minute % 30 = 29 → c.second = 59 → c.minute ≤ 1439 →
       let midnight := c.minute = 1439
       let minute := if midnight then 0 else c.minute + 1
       let day := if midnight then (c.day + 1) % 65536 else c.day
       ∃ t, exec .slotBoundary s = .next t ∧
         t.clock = { c with second := 0, minute := minute, day := day, slot := minute / 30 } ∧
         t.grid = (if s.grid.swapArmed then { s.grid with active := s.grid.staging, swapArmed := false } else s.grid) ∧
         (s.arb.runs = [] → ¬ midnight → s.Settled →
           t.link = s.link.post (.slot (minute / 30) c.day s.grid.swapArmed) ∧ t.zones = s.zones ∧ t.arb = s.arb) ∧
         (∀ q, s.arb.runs = [q] → s.BudgetOk →
           let isOpen := Bank.isOpen (if s.grid.swapArmed then s.grid.staging else s.grid.active) q.zone (minute / 30)
           (q.respectWindows = true → isOpen = false → s.Stopped .waiting q t) ∧
           (q.respectWindows = false ∨ isOpen = true → q.admitted = true →
             ∃ q', t.run? q.zone = some q' ∧ { q' with seq := q.seq } = q))) ∧
     (¬ (c.valid = true ∧ c.minute % 30 = 29 ∧ c.second = 59) → exec .slotBoundary s = .next s)) ∧
  (∀ s : State, s.Settled → s.zones.length = 48 → s.arb.runs = [] → s.clock.valid = true → s.clock.minute = 1439 →
     s.clock.second = 59 →
     ∃ t, exec .slotBoundary s = .next t ∧ s.RolledOver 1 t ∧
       ((∀ r ∈ s.zones, r.cfg.timedIntervalDays = 0) →
         let today := (s.clock.day + 1) % 65536
         t.link = (s.link.post (.slot 0 today s.grid.swapArmed)).post (.day today 1)))

/-- GRID_WINDOW: the fields are tested, an accepted request replaces the window and puts the cursor at its start, and
the reply carries the number of cells; no cell is touched, and an armed swap does not matter (R105). -/
def Obligations.GridWindowSetsTheWindow : Prop :=
  ∀ (zs ze ss se o tag : Byte) (s : State), s.Takes [zs, ze, ss, se, o] →
    let good := 1 ≤ zs.toNat ∧ zs.toNat ≤ ze.toNat ∧ ze.toNat ≤ 48 ∧ ss.toNat ≤ se.toNat ∧ se.toNat ≤ 47 ∧ o.toNat ≤ 1
    let cells := (ze.toNat - zs.toNat + 1) * (se.toNat - ss.toNat + 1)
    let order := if o.toNat = 0 then GridOrder.acrossSlots else GridOrder.acrossZones
    (¬ good → RefusedWith (.gridWindow tag [zs, ze, ss, se, o]) 0x12#8 tag .badField s) ∧
    (good →
      1 ≤ cells ∧ cells ≤ 2304 ∧
      exec (.gridWindow tag [zs, ze, ss, se, o]) s =
        .next { s with
          grid := { s.grid with zoneStart := zs.toNat, zoneEnd := ze.toNat, slotStart := ss.toNat, slotEnd := se.toNat,
                                order := order, curZone := zs.toNat, curSlot := ss.toNat },
          link := s.link.queueReply (replyFrame 0x12#8 tag .ok (u16 cells)) })

/-- The cursor's step in both orders, which never leaves the window; GRID_WRITE and GRID_READ move the cursor one step
for each cell, GRID_WINDOW and the resets set it, and no other command moves it (R106). Bytes on HRX that complete frames
of their own are told as those frames' commands (UntakenFramesAreOnlyCounted). -/
def Obligations.CursorStepsThroughTheWindow : Prop :=
  (∀ g : Grid, g.order = .acrossSlots →
    (g.curSlot < g.slotEnd → g.step = { g with curSlot := g.curSlot + 1 }) ∧
    (g.curSlot = g.slotEnd → g.curZone < g.zoneEnd →
      g.step = { g with curSlot := g.slotStart, curZone := g.curZone + 1 }) ∧
    (g.curSlot = g.slotEnd → g.curZone = g.zoneEnd →
      g.step = { g with curSlot := g.slotStart, curZone := g.zoneStart })) ∧
  (∀ g : Grid, g.order = .acrossZones →
    (g.curZone < g.zoneEnd → g.step = { g with curZone := g.curZone + 1 }) ∧
    (g.curZone = g.zoneEnd → g.curSlot < g.slotEnd →
      g.step = { g with curZone := g.zoneStart, curSlot := g.curSlot + 1 }) ∧
    (g.curZone = g.zoneEnd → g.curSlot = g.slotEnd →
      g.step = { g with curZone := g.zoneStart, curSlot := g.slotStart })) ∧
  (∀ g : Grid, g.CursorOk → g.step.CursorOk) ∧
  (∀ (tag : Byte) (p : List Byte) (s t : State), s.Takes p → s.grid.swapArmed = false → 1 ≤ p.length → p.length ≤ 96 →
    (∀ b ∈ p, b.toNat ≤ 1) → exec (.gridWrite tag p) s = .next t →
    t.grid.curZone = (Nat.repeat Grid.step p.length s.grid).curZone ∧
      t.grid.curSlot = (Nat.repeat Grid.step p.length s.grid).curSlot) ∧
  (∀ (tag bank n : Byte) (s t : State), s.Takes [bank, n] → bank.toNat ≤ 1 → 1 ≤ n.toNat → n.toNat ≤ 96 →
    exec (.gridRead tag [bank, n]) s = .next t →
    t.grid.curZone = (Nat.repeat Grid.step n.toNat s.grid).curZone ∧
      t.grid.curSlot = (Nat.repeat Grid.step n.toNat s.grid).curSlot) ∧
  (∀ (zs ze ss se o tag : Byte) (s t : State), s.Takes [zs, ze, ss, se, o] →
    exec (.gridWindow tag [zs, ze, ss, se, o]) s = .next t →
    (t.grid.curZone = zs.toNat ∧ t.grid.curSlot = ss.toNat) ∨
      (t.grid.curZone = s.grid.curZone ∧ t.grid.curSlot = s.grid.curSlot)) ∧
  (∀ (c : Instr) (s t : State), (∀ tag p, c ≠ .gridWindow tag p ∧ c ≠ .gridWrite tag p ∧ c ≠ .gridRead tag p) →
    c.bytewise s = false → exec c s = .next t →
    (c.resets s = false → t.grid.curZone = s.grid.curZone ∧ t.grid.curSlot = s.grid.curSlot) ∧
    (c.resets s = true → t.grid.curZone = 1 ∧ t.grid.curSlot = 0))

/-- GRID_WRITE: a bad list is refused, and so is any list while a swap is armed; an accepted one writes STAGING in list
order from the cursor, a later value to a cell replacing an earlier one, and leaves ACTIVE and every other cell (R107).
That a bad list comes before an armed swap is the model's choice (log 49). -/
def Obligations.GridWriteFillsStaging : Prop :=
  ∀ (tag : Byte) (p : List Byte) (s : State), s.Takes p →
    let good := 1 ≤ p.length ∧ p.length ≤ 96 ∧ ∀ b ∈ p, b.toNat ≤ 1
    let cur (k : Nat) : Nat × Nat :=
      ((Nat.repeat Grid.step k s.grid).curZone, (Nat.repeat Grid.step k s.grid).curSlot)
    (¬ good → RefusedWith (.gridWrite tag p) 0x13#8 tag .badField s) ∧
    (good → s.grid.swapArmed = true → RefusedWith (.gridWrite tag p) 0x13#8 tag .conflict s) ∧
    (good → s.grid.swapArmed = false → s.grid.CursorOk →
      ∃ staging, exec (.gridWrite tag p) s =
          .next { s with
            grid := { s.grid with staging := staging, curZone := (cur p.length).1, curSlot := (cur p.length).2 },
            link := s.link.queueReply (replyFrame 0x13#8 tag .ok [u8 (cur p.length).1, u8 (cur p.length).2]) } ∧
        ∀ zone slot, 1 ≤ zone → zone ≤ 48 → slot ≤ 47 →
          (∀ k b, p[k]? = some b → cur k = (zone, slot) →
            (∀ j, k < j → j < p.length → cur j ≠ (zone, slot)) → Bank.isOpen staging zone slot = (b.toNat = 1)) ∧
          ((∀ k, k < p.length → cur k ≠ (zone, slot)) →
            Bank.isOpen staging zone slot = Bank.isOpen s.grid.staging zone slot))

/-- GRID_READ: a bad bank or count is refused; an accepted one carries the cursor after the last cell and the cells of
the bank in the order taken from the cursor, wrapping round the window, and moves nothing but the cursor (R108). -/
def Obligations.GridReadTakesCellsFromTheCursor : Prop :=
  ∀ (tag bank n : Byte) (s : State), s.Takes [bank, n] →
    let good := bank.toNat ≤ 1 ∧ 1 ≤ n.toNat ∧ n.toNat ≤ 96
    let b := if bank.toNat = 0 then s.grid.active else s.grid.staging
    let cur (k : Nat) : Grid := Nat.repeat Grid.step k s.grid
    let after := cur n.toNat
    (¬ good → RefusedWith (.gridRead tag [bank, n]) 0x14#8 tag .badField s) ∧
    (good →
      exec (.gridRead tag [bank, n]) s =
        .next { s with
          grid := { s.grid with curZone := after.curZone, curSlot := after.curSlot },
          link := s.link.queueReply (replyFrame 0x14#8 tag .ok ([u8 after.curZone, u8 after.curSlot] ++
            (List.range n.toNat).map fun k => flagByte (Bank.isOpen b (cur k).curZone (cur k).curSlot))) })

/-- GRID_SWAP arms the swap and says whether it was armed; an armed swap stays armed until a boundary applies it,
through the first SET_TIME of an UNSET clock, and a power-on reset clears it (R109). Bytes on HRX that complete frames of
their own are told as those frames' commands (UntakenFramesAreOnlyCounted). -/
def Obligations.GridSwapArmsUntilABoundary : Prop :=
  (∀ (tag : Byte) (s : State), s.Takes [] →
    exec (.gridSwap tag []) s =
      .next { s with grid := { s.grid with swapArmed := true },
                     link := s.link.queueReply (replyFrame 0x15#8 tag .ok [flagByte s.grid.swapArmed]) }) ∧
  (∀ (c : Instr) (s t : State), c.bytewise s = false → exec c s = .next t → s.grid.swapArmed = true →
    (c.resets s = true → t.grid.swapArmed = false) ∧
    (c.resets s = false → c ≠ .slotBoundary → (∀ tag p, c ≠ .setTime tag p) → t.grid.swapArmed = true) ∧
    ((∃ tag p, c = .setTime tag p) → s.clock.valid = false → t.grid.swapArmed = true) ∧
    (c = .slotBoundary → s.clock.valid = true → s.clock.minute % 30 = 29 → s.clock.second = 59 →
      t.grid.swapArmed = false) ∧
    (∀ tag b0 b1 b2 b3, c = .setTime tag [b0, b1, b2, b3] → s.Takes [b0, b1, b2, b3] → s.clock.valid = true →
      b2.toNat * 256 + b3.toNat ≤ 1439 → (b2.toNat * 256 + b3.toNat) / 30 ≠ s.clock.slot →
      t.grid.swapArmed = false) ∧
    (t.grid.swapArmed = false → c.resets s = false →
      t.grid.active = s.grid.staging ∧ t.grid.staging = s.grid.staging))

/-! ## Weather and holds (chapter 5) -/

/-- WEATHER: a field out of range is refused; an accepted report replaces the record with its validity, and RAIN's
sources, RAIN, WIND and FREEZE are judged by it; the reply carries the holds and the factor it leaves (R84, R85, R88,
R90 to R92). HOLD_CONFIG: a threshold out of range or freeze_off not above freeze_on is refused; an accepted request
replaces all six, and while a report is present RAIN's sources and WIND are judged again; FREEZE is not (R87, R88, R90,
R91). What a start does, told of the only run in the queue: FREEZE stops it with FROZEN whatever else starts (R45, R92);
RAIN or WIND suspends it unless its origin is MANUAL, and then leaves it as it was while it is admitted (R42). The
HOLD_EVENT notices, told with an empty queue, follow the reply, starts before ends (R84, R97); the order of the ends, and
RAIN RESUMED in the place of RAIN's start, are the model's (log 35). -/
def Obligations.WeatherAndThresholdsAreJudged : Prop :=
  (∀ (b0 b1 b2 b3 b4 b5 b6 b7 tag : Byte) (s : State), s.Takes [b0, b1, b2, b3, b4, b5, b6, b7] →
     let rain := b0.toNat * 256 + b1.toNat
     let valid := b6.toNat * 256 + b7.toNat
     let good := rain ≤ 2000 ∧ b2.toNat ≤ 100 ∧ (-40) ≤ b3.toInt ∧ b3.toInt ≤ 60 ∧ b4.toNat ≤ 200 ∧ b5.toNat ≤ 250 ∧
       10 ≤ valid ∧ valid ≤ 1440
     let cfg := s.hold.cfg
     let request := Instr.weather tag [b0, b1, b2, b3, b4, b5, b6, b7]
     let freezes (t : State) : Prop := s.hold.freeze = false ∧ t.hold.freeze = true
     (¬ good → RefusedWith request 0x04#8 tag .badField s) ∧
     (good → cfg.freezeOn < cfg.freezeOff → s.hold.Ok →
       ∃ t, exec request s = .next t ∧
         t.hold.weather = some { rainMmX10 := rain, rainProbPct := b2.toNat, tempC := b3.toInt, windKmh := b4.toNat,
                                 etFactorPct := b5.toNat, validMin := valid, validUntil := s.clock.uptime + valid * 60 } ∧
         t.hold.factor = b5.toNat ∧ t.hold.cfg = cfg ∧
         t.hold.sources = { contact := s.hold.sources.contact, observed := cfg.rainThreshold ≤ rain,
                            forecast := cfg.probThreshold ≤ b2.toNat } ∧
         s.hold.RainFollows t.hold s.clock.uptime ∧
         t.hold.wind = decide (cfg.windThreshold ≤ b4.toNat) ∧
         t.hold.freeze = (if s.hold.freeze then decide (b3.toInt < cfg.freezeOff) else decide (b3.toInt ≤ cfg.freezeOn)) ∧
         t.hold.manual = s.hold.manual ∧ t.hold.manualEnd = s.hold.manualEnd ∧
         t.hold.contactClosed = s.hold.contactClosed ∧ t.hold.debounceEnd = s.hold.debounceEnd ∧
         t.Answered (replyFrame 0x04#8 tag .ok [u8 t.hold.activeCode, b5]) ∧
         (s.arb.runs = [] → s.Settled →
           let frost (now past : HoldUnit) (event : HoldEvent) : List Notice :=
             if !past.freeze && now.freeze then [.holdEvent .freeze event none none] else []
           t.link = (s.link.queueReply (replyFrame 0x04#8 tag .ok [u8 t.hold.activeCode, b5])).postAll
             (frost t.hold s.hold .start ++ s.hold.starts t.hold ++ frost s.hold t.hold .ended ++ s.hold.ends t.hold)) ∧
         (∀ q, s.arb.runs = [q] → freezes t → s.Stopped .frozen q t) ∧
         (∀ q, s.arb.runs = [q] → ¬ freezes t → s.PauseStarts t → s.PausedBy q t))) ∧
  (∀ (b0 b1 b2 b3 b4 b5 b6 b7 tag : Byte) (s : State), s.Takes [b0, b1, b2, b3, b4, b5, b6, b7] →
     let rain := b0.toNat * 256 + b1.toNat
     let release := b6.toNat * 256 + b7.toNat
     let good := 1 ≤ rain ∧ rain ≤ 500 ∧ 1 ≤ b2.toNat ∧ b2.toNat ≤ 100 ∧ 5 ≤ b3.toNat ∧ b3.toNat ≤ 150 ∧
       (-10) ≤ b4.toInt ∧ b4.toInt ≤ 10 ∧ b4.toInt < b5.toInt ∧ b5.toInt ≤ 15 ∧ release ≤ 1440
     let request := Instr.holdConfig tag [b0, b1, b2, b3, b4, b5, b6, b7]
     let cfg : HoldConfig := { rainThreshold := rain, probThreshold := b2.toNat, windThreshold := b3.toNat,
                               freezeOn := b4.toInt, freezeOff := b5.toInt, releaseMin := release }
     (¬ good → RefusedWith request 0x05#8 tag .badField s) ∧
     (good → s.hold.Ok →
       ∃ t, exec request s = .next t ∧ t.Answered (replyFrame 0x05#8 tag .ok []) ∧ t.hold.cfg = cfg ∧
         (s.arb.runs = [] → s.Settled →
           t.link = (s.link.queueReply (replyFrame 0x05#8 tag .ok [])).postAll
             (s.hold.starts t.hold ++ s.hold.ends t.hold)) ∧
         (∀ q, s.arb.runs = [q] → s.PauseStarts t → s.PausedBy q t) ∧
         (s.hold.weather = none → t.hold = { s.hold with cfg := cfg }) ∧
         (∀ w, s.hold.weather = some w →
           t.hold.sources = { contact := s.hold.sources.contact, observed := rain ≤ w.rainMmX10,
                              forecast := b2.toNat ≤ w.rainProbPct } ∧
           s.hold.RainFollows t.hold s.clock.uptime ∧ t.hold.wind = decide (b3.toNat ≤ w.windKmh) ∧
           t.hold.weather = some w ∧ t.hold.freeze = s.hold.freeze ∧ t.hold.manual = s.hold.manual ∧
           t.hold.manualEnd = s.hold.manualEnd ∧ t.hold.contactClosed = s.hold.contactClosed ∧
           t.hold.debounceEnd = s.hold.debounceEnd)))

/-- HOLD_SET by the table of R93: the MANUAL hold is in force with the timer asked for; on an inactive hold START is the
first notice after the reply and a run that waits is suspended, and on an active one nothing but the timer changes. A
MANUAL hold ends by HOLD_CLEAR or by its timer: it is inactive without a timer; a suspended run, told of alone in the
queue with the line down, stays suspended under RAIN or WIND if they apply to it, and becomes WAITING if no hold and no
line loss keeps it; END, told with an empty queue, is the one notice (R97). HOLD_CLEAR without a MANUAL hold is refused
with CONFLICT; a timer that has not fallen due changes nothing (R94, R96; the guard is log 2's). -/
def Obligations.ManualHoldStartsAndEnds : Prop :=
  (∀ (b0 b1 tag : Byte) (s : State), s.Takes [b0, b1] → s.Settled →
     let minutes := b0.toNat * 256 + b1.toNat
     let hold := { s.hold with manual := true,
                               manualEnd := if minutes = 0 then none else some (s.clock.uptime + minutes * 60) }
     let answered := s.link.queueReply (replyFrame 0x06#8 tag .ok [b0, b1])
     (10080 < minutes → RefusedWith (.holdSet tag [b0, b1]) 0x06#8 tag .badField s) ∧
     (minutes ≤ 10080 →
       ∃ t, exec (.holdSet tag [b0, b1]) s = .next t ∧ t.hold = hold ∧
         t.Answered (replyFrame 0x06#8 tag .ok [b0, b1]) ∧
         (s.hold.manual = true → t.link = answered ∧ t.arb = s.arb ∧ t.zones = s.zones ∧ t.seqr = s.seqr ∧
           t.supply = s.supply) ∧
         (s.hold.manual = false → s.arb.runs = [] →
           t.link = answered.post (.holdEvent .manual .start none (some minutes))) ∧
         (∀ q, s.hold.manual = false → s.arb.runs = [q] →
           q.state = .waiting ∨ q.state = .soaking ∨ q.state = .suspended →
           t.arb = { s.arb with runs := [{ q with state := .suspended, suspHold := true, soakEnd := none }] }))) ∧
  (∀ (tag : Byte) (s : State),
     let ended (answered : Link) (t : State) : Prop :=
       t.hold = { s.hold with manual := false, manualEnd := none } ∧
       (s.arb.runs = [] → s.Settled → t.link = answered.post (.holdEvent .manual .ended none none)) ∧
       (∀ q, s.arb.runs = [q] → q.state = .suspended → s.line.state = .off →
         (q.origin ≠ .manual → s.hold.rainActive = true ∨ s.hold.wind = true → t.arb = s.arb) ∧
         (q.origin = .manual ∨ (s.hold.rainActive = false ∧ s.hold.wind = false) → q.suspLine = false →
           t.arb = { s.arb with runs := [{ q with state := .waiting, suspHold := false }] }))
     (s.Takes [] → s.hold.manual = true →
       ∃ t, exec (.holdClear tag []) s = .next t ∧ ended (s.link.queueReply (replyFrame 0x07#8 tag .ok [])) t ∧
         t.Answered (replyFrame 0x07#8 tag .ok [])) ∧
     (s.Takes [] → s.hold.manual = false → RefusedWith (.holdClear tag []) 0x07#8 tag .conflict s) ∧
     (∀ e, s.hold.manual = true → s.hold.manualEnd = some e → e ≤ s.clock.uptime →
       ∃ t, exec .manualHoldExpiry s = .next t ∧ ended s.link t) ∧
     (s.hold.manual = false ∨ s.hold.manualEnd = none ∨ (∃ e, s.hold.manualEnd = some e ∧ s.clock.uptime < e) →
       exec .manualHoldExpiry s = .next s))

/-- RAIN_IN_CHANGE: the pin takes its level; the debounce timer starts 2 s on when the pin comes to differ from the
contact level, runs on while it differs, and stops when it no longer does (R89). DEBOUNCE_EXPIRY: the contact level
takes the pin's level, CONTACT is added or removed, and RAIN follows (R89, R90); a RAIN that starts pauses the only run in
the queue as R42 gives, and the HOLD_EVENT notice is told with an empty queue (R97). A timer that has not fallen due
changes nothing (log 2). -/
def Obligations.RainContactIsDebounced : Prop :=
  (∀ (level : PinLevel) (s : State),
     (((level = .low) ↔ s.hold.contactClosed = true) →
       exec (.rainInChange level) s = .next { s with rainIn := level, hold := { s.hold with debounceEnd := none } }) ∧
     (¬ ((level = .low) ↔ s.hold.contactClosed = true) →
       exec (.rainInChange level) s =
         .next { s with rainIn := level,
                        hold := { s.hold with debounceEnd := some (s.hold.debounceEnd.getD (s.timeBase + 2000)) } })) ∧
  (∀ s : State,
     (∀ e, s.hold.debounceEnd = some e → e ≤ s.timeBase → s.hold.Ok →
       ∃ t, exec .debounceExpiry s = .next t ∧ t.hold.contactClosed = decide (s.rainIn = .low) ∧
         t.hold.debounceEnd = none ∧
         t.hold.sources = { s.hold.sources with contact := s.rainIn = .low } ∧
         s.hold.RainFollows t.hold s.clock.uptime ∧
         (s.arb.runs = [] → s.Settled → t.link = s.link.postAll (s.hold.starts t.hold ++ s.hold.ends t.hold)) ∧
         (∀ q, s.arb.runs = [q] → s.PauseStarts t → s.PausedBy q t) ∧
         t.hold.weather = s.hold.weather ∧ t.hold.cfg = s.hold.cfg ∧ t.hold.wind = s.hold.wind ∧
         t.hold.freeze = s.hold.freeze ∧ t.hold.manual = s.hold.manual ∧ t.hold.manualEnd = s.hold.manualEnd) ∧
     (s.hold.debounceEnd = none ∨ (∃ e, s.hold.debounceEnd = some e ∧ s.timeBase < e) →
       exec .debounceExpiry s = .next s))

/-- RELEASE_EXPIRY ends RAIN; WEATHER_STALE makes the report absent, drops its rain sources and WIND and leaves FREEZE
and CONTACT. The notices are told with an empty queue: END of RAIN, and WEATHER_STALE before the ends it brings (R86, R97);
that RAIN's end or release is posted before WIND's end is the model's (log 35).
Either timer changes nothing before it falls due (R86, R90; the guard is log 2's). -/
def Obligations.RainReleaseAndReportExpire : Prop :=
  ∀ s : State,
    (∀ e, s.hold.releaseEnd = some e → e ≤ s.clock.uptime →
      ∃ t, exec .releaseExpiry s = .next t ∧ t.hold = { s.hold with rainActive := false, releaseEnd := none } ∧
        (s.arb.runs = [] → s.Settled →
          t.link = s.link.post (.holdEvent .rain .ended (some s.hold.sources) none))) ∧
    (s.hold.releaseEnd = none ∨ (∃ e, s.hold.releaseEnd = some e ∧ s.clock.uptime < e) →
      exec .releaseExpiry s = .next s) ∧
    (∀ w, s.hold.weather = some w → w.validUntil ≤ s.clock.uptime → s.hold.Ok →
      ∃ t, exec .weatherStale s = .next t ∧ t.hold.weather = none ∧ t.hold.factor = 100 ∧ t.hold.wind = false ∧
        (s.arb.runs = [] → s.Settled →
          t.link = (s.link.post (.weatherStale s.hold.freeze)).postAll (s.hold.ends t.hold)) ∧
        t.hold.sources = { contact := s.hold.sources.contact, observed := false, forecast := false } ∧
        s.hold.RainFollows t.hold s.clock.uptime ∧ t.hold.freeze = s.hold.freeze ∧ t.hold.cfg = s.hold.cfg ∧
        t.hold.manual = s.hold.manual ∧ t.hold.manualEnd = s.hold.manualEnd ∧
        t.hold.contactClosed = s.hold.contactClosed ∧ t.hold.debounceEnd = s.hold.debounceEnd) ∧
    (s.hold.weather = none ∨ (∃ w, s.hold.weather = some w ∧ s.clock.uptime < w.validUntil) →
      exec .weatherStale s = .next s)

/-! ## The master valve and flow supervision (chapter 4) -/

/-- SUPPLY_SET: the three tests in their order; an accepted request replaces the seven settings, discards the window and
clears the counts when a flow setting changes; the supply state is not changed (told with an empty queue, since the
acceptance is an admission opportunity) (R81, R46). The reply OK carries the status alone (the model's choice, log 50). -/
def Obligations.SupplySetReplacesTheSettings : Prop :=
  ∀ (b0 b1 b2 b3 b4 b5 b6 b7 b8 b9 tag : Byte) (s : State), s.Takes [b0, b1, b2, b3, b4, b5, b6, b7, b8, b9] →
    let request := Instr.supplySet tag [b0, b1, b2, b3, b4, b5, b6, b7, b8, b9]
    let cap := b0.toNat * 256 + b1.toNat
    let lag := b4.toNat * 256 + b5.toNat
    let pulses := b6.toNat * 256 + b7.toNat
    let good := 10 ≤ cap ∧ cap ≤ 2000 ∧ 1 ≤ b2.toNat ∧ b2.toNat ≤ 4 ∧ b3.toNat ≤ 60 ∧ lag ≤ 600 ∧ pulses ≤ 1000 ∧
      10 ≤ b8.toNat ∧ b8.toNat ≤ 100 ∧ 1 ≤ b9.toNat ∧ b9.toNat ≤ 200
    let tooSmall := ∃ r ∈ s.zones, r.cfg.enabled = true ∧ cap < r.cfg.nominalFlow
    let changed := ¬ (pulses = s.supply.pulsesPer10L ∧ b8.toNat = s.supply.tolerancePct ∧
      b9.toNat = s.supply.leakThreshold)
    (¬ good → RefusedWith request 0x08#8 tag .badField s) ∧
    (good → 0 < s.arb.openCount → RefusedWith request 0x08#8 tag .conflict s) ∧
    (good → s.arb.openCount = 0 → tooSmall → RefusedWith request 0x08#8 tag .badField s) ∧
    (good → s.arb.openCount = 0 → ¬ tooSmall →
      ∃ t, exec request s = .next t ∧ t.Answered (replyFrame 0x08#8 tag .ok []) ∧
        t.supply.cap = cap ∧ t.supply.maxOpen = b2.toNat ∧ t.supply.leadS = b3.toNat ∧ t.supply.lagS = lag ∧
        t.supply.pulsesPer10L = pulses ∧ t.supply.tolerancePct = b8.toNat ∧ t.supply.leakThreshold = b9.toNat ∧
        t.supply.lastFlow = (if pulses = 0 then none else s.supply.lastFlow) ∧
        t.supply.windowPulses = s.supply.windowPulses ∧ t.supply.windowEnd = s.supply.windowEnd ∧
        (s.arb.runs = [] → s.Settled →
          t.arb = s.arb ∧ t.zones = s.zones ∧ t.supply.state = s.supply.state ∧
          t.supply.tripCause = s.supply.tripCause ∧ t.supply.timerEnd = s.supply.timerEnd ∧
          t.supply.windowDiscard = true ∧
          (changed → t.supply.highCount = 0 ∧ t.supply.lowCount = 0 ∧ t.supply.leakCount = 0 ∧
            t.supply.lowAlarmed = false) ∧
          (¬ changed → t.supply.highCount = s.supply.highCount ∧ t.supply.lowCount = s.supply.lowCount ∧
            t.supply.leakCount = s.supply.leakCount ∧ t.supply.lowAlarmed = s.supply.lowAlarmed)))

/-- SUPPLY_GET is answered with the supply record as it stands, laid out in 27 bytes, and changes no state; the master
valve is open exactly in LEAD, ON and LAG (R69, R82). -/
def Obligations.SupplyGetReportsTheRecord : Prop :=
  ∀ (tag : Byte) (s : State), s.Takes [] →
    let u := s.supply
    let masterOpen := u.state = .lead ∨ u.state = .on ∨ u.state = .lag
    let expected := ((s.arb.runs.filter (·.state = .opened)).map fun r => s.nominal r.zone).sum
    let bytes := u16 u.cap ++ [u8 u.maxOpen, u8 u.leadS] ++ u16 u.lagS ++ u16 u.pulsesPer10L ++
      [u8 u.tolerancePct, u8 u.leakThreshold, u8 u.state.code, opt8 (u.tripCause.map (·.code)),
        if masterOpen then 1#8 else 0#8] ++
      opt16 (u.timerEnd.map (· - s.clock.uptime)) ++ u16 s.arb.flowSum ++ [u8 s.arb.openCount] ++ u16 expected ++
      opt16 u.lastFlow ++
      [flagByte u.lastKept, u8 u.highCount, u8 u.lowCount, u8 u.leakCount, flagByte u.lowAlarmed]
    OnlyAnswers (.supplyGet tag []) 0x09#8 tag bytes s ∧ bytes.length = 27 ∧ (s.mvOut = true ↔ masterOpen)

/-- TRIP_CLEAR is refused outside TRIPPED and while a run is admitted; accepted, the supply becomes IDLE with no cause
and no counts, the window is discarded, SUPPLY_EVENT CLEARED follows the reply, and the Zone Table is not touched (R75;
the queue is empty by then; that CLEARED carries neither cause nor state is log 37's, the model's). A TRIPPED supply
stays TRIPPED with its cause under every command but TRIP_CLEAR and the resets; bytes on HRX that complete frames of
their own are told as those frames' commands (UntakenFramesAreOnlyCounted). -/
def Obligations.TripIsLeftOnlyByTripClear : Prop :=
  (∀ (tag : Byte) (s : State), s.Takes [] →
     (s.supply.state ≠ .tripped → RefusedWith (.tripClear tag []) 0x0A#8 tag .conflict s) ∧
     (s.supply.state = .tripped → 0 < s.arb.openCount → RefusedWith (.tripClear tag []) 0x0A#8 tag .conflict s) ∧
     (s.supply.state = .tripped → s.arb.openCount = 0 →
       ∃ t, exec (.tripClear tag []) s = .next t ∧ t.Answered (replyFrame 0x0A#8 tag .ok []) ∧
         t.supply.tripCause = none ∧
         (s.arb.runs = [] → s.Settled →
           t.supply = { s.supply with state := .idle, tripCause := none, highCount := 0, lowCount := 0, leakCount := 0,
                                      windowDiscard := true } ∧
           t.mvOut = false ∧ t.arb = s.arb ∧ t.zones = s.zones ∧
           t.link = (s.link.queueReply (replyFrame 0x0A#8 tag .ok [])).post (.supplyEvent .cleared none none)))) ∧
  (∀ (c : Instr) (s t : State), s.supply.state = .tripped → c.resets s = false → c.bytewise s = false →
     (∀ tag p, c ≠ .tripClear tag p) → exec c s = .next t →
     t.supply.state = .tripped ∧ t.supply.tripCause = s.supply.tripCause)

/-- LEAD_EXPIRY: to ON while a run is admitted, else to LAG, or IDLE when lag_s is 0. LAG_EXPIRY: to IDLE. MV_OUT
follows, the change discards the flow window, and no notice is posted; a timer that has not fallen due changes nothing
(R71, R72, R77; the guard is log 2's). When the lead ends, the first OPEN of an admitted run (told of alone in the
queue) goes to the Scheduler: an entry of origin VALVE for its first output's address and number, which the actuation
record notes (R52, R53, R71). -/
def Obligations.LeadAndLagExpire : Prop :=
  (∀ s : State, s.Settled →
     (∀ e, s.supply.state = .lead → s.supply.timerEnd = some e → e ≤ s.clock.uptime →
       ∃ t, exec .leadExpiry s = .next t ∧ t.link = s.link ∧ t.arb = s.arb ∧ t.zones = s.zones ∧
         t.supply.windowDiscard = true ∧
         (0 < s.arb.openCount → t.supply.state = .on ∧ t.supply.timerEnd = none ∧ t.mvOut = true) ∧
         (s.arb.openCount = 0 → 0 < s.supply.lagS →
           t.supply.state = .lag ∧ t.supply.timerEnd = some (s.clock.uptime + s.supply.lagS) ∧ t.mvOut = true) ∧
         (s.arb.openCount = 0 → s.supply.lagS = 0 →
           t.supply.state = .idle ∧ t.supply.timerEnd = none ∧ t.mvOut = false)) ∧
     (∀ e, s.supply.state = .lag → s.supply.timerEnd = some e → e ≤ s.clock.uptime →
       ∃ t, exec .lagExpiry s = .next t ∧ t.link = s.link ∧ t.arb = s.arb ∧ t.zones = s.zones ∧
         t.supply = { s.supply with state := .idle, timerEnd := none, windowDiscard := true } ∧ t.mvOut = false) ∧
     ((∀ e, s.supply.timerEnd = some e → s.clock.uptime < e) →
       exec .leadExpiry s = .next s ∧ exec .lagExpiry s = .next s)) ∧
  (∀ (s : State) (q : Run) (x : ActRecord) (o : OutEntry) (rest : List OutEntry) (addr e : Nat),
     s.Settled → s.sched.entries.length = 16 → (∃ y ∈ s.sched.entries, y.state = .free) → s.sched.waits = [] →
     s.supply.state = .lead → s.supply.timerEnd = some e → e ≤ s.clock.uptime → 0 < s.arb.openCount →
     s.arb.runs = [q] → q.state = .opening → q.closePending = false →
     s.seqr.records = [x] → x.zone = q.zone → x.openHanded = false → x.inFlight = none → x.outputs = o :: rest →
     o.status = .notSent → (∀ p ∈ rest, p.ref ≠ o.ref) → s.addrOf o.ref.serial = some addr →
     ∃ t i y, exec .leadExpiry s = .next t ∧ t.sched.entries[i]? = some y ∧ y.origin = .valve ∧ y.op = .opn ∧
       y.address = addr ∧ y.replyAddr = some addr ∧ y.payload = [u8 o.ref.num] ∧ y.zone = q.zone ∧
       y.queuedAt = s.timeBase ∧ (y.state = .queued ∨ y.state = .sent) ∧
       t.seqr.records = [{ x with outputs := { o with status := .openSent } :: rest, openHanded := true,
                                  inFlight := some (i, y.gen) }])

/-- FLOW_PULSE adds 1 to window_pulses up to 65535 while supervision is active, and nothing while it is off (R76); that the
pulses in the rest of a window in which supervision is turned on count is log 60's.
FLOW_WINDOW_END: the measured flow and whether the window was kept, the next window's start, and the three counts by the
judgements of a kept window; a discarded window judges nothing (R76 to R80). While supervision is off the window only
ends (log 41), and before its end the command does nothing (log 2). What the last count of a judgement does: high flow
closes the run that entered OPEN last with HIGH_FLOW, or trips the supply with no run OPEN; low flow closes a single
open run with NO_FLOW, or raises one FLOW_ALARM; a leak trips the supply (R78 to R80, R73). -/
def Obligations.FlowIsMeasuredJudgedAndActedOn : Prop :=
  (∀ s : State,
     (0 < s.supply.pulsesPer10L →
       exec .flowPulse s =
         .next { s with supply := { s.supply with windowPulses := min 65535 (s.supply.windowPulses + 1) } }) ∧
     (s.supply.pulsesPer10L = 0 → exec .flowPulse s = .next s)) ∧
  (∀ s : State, s.Settled →
     let u := s.supply
     let measured := u.windowPulses * 600 / u.pulsesPer10L
     let expected := ((s.arb.runs.filter (·.state = .opened)).map fun r => s.nominal r.zone).sum
     let changing := ∃ r ∈ s.arb.runs, r.state = .closing ∨ (r.state = .opening ∧ s.openHanded r.zone = true)
     let kept := u.windowDiscard = false ∧ ¬ changing
     let high := u.state = .on ∧ expected * (100 + u.tolerancePct) / 100 < measured
     let low := u.state = .on ∧ s.arb.openOrder ≠ [] ∧ measured < expected * (100 - u.tolerancePct) / 100
     let leak := u.state = .idle ∧ u.leakThreshold ≤ measured
     let next := { u with windowPulses := 0, windowDiscard := false, windowEnd := u.windowEnd + 10,
                          lastFlow := some measured, lastKept := decide kept }
     (s.clock.uptime < u.windowEnd → exec .flowWindowEnd s = .next s) ∧
     (u.windowEnd ≤ s.clock.uptime → u.pulsesPer10L = 0 →
       ∃ t, exec .flowWindowEnd s = .next t ∧ t.arb = s.arb ∧
         t.supply = { u with windowPulses := 0, windowDiscard := false, windowEnd := u.windowEnd + 10,
                             lastFlow := none }) ∧
     (u.windowEnd ≤ s.clock.uptime → 0 < u.pulsesPer10L →
       ∃ t, exec .flowWindowEnd s = .next t ∧
         t.supply.windowPulses = 0 ∧ t.supply.windowEnd = u.windowEnd + 10 ∧ t.supply.lastFlow = some measured ∧
         (t.supply.lastKept = true ↔ kept) ∧
         (¬ kept → t.arb = s.arb ∧ t.supply = next) ∧
         (kept → (high → u.highCount = 0) → (low → u.lowCount ≤ 1) → (leak → u.leakCount ≤ 1) →
           t.arb = s.arb ∧
           t.supply = { next with highCount := if high then 1 else 0, lowCount := if low then u.lowCount + 1 else 0,
                                  lowAlarmed := if low then u.lowAlarmed else false,
                                  leakCount := if leak then u.leakCount + 1 else 0 }))) ∧
  (∀ (s t : State), s.Settled → s.supply.windowEnd ≤ s.clock.uptime → 0 < s.supply.pulsesPer10L →
     s.supply.windowDiscard = false →
     (∀ r ∈ s.arb.runs, r.state ≠ .closing ∧ (r.state = .opening → s.openHanded r.zone = false)) →
     exec .flowWindowEnd s = .next t →
     let u := s.supply
     let measured := u.windowPulses * 600 / u.pulsesPer10L
     let expected := ((s.arb.runs.filter (·.state = .opened)).map fun r => s.nominal r.zone).sum
     let isLow := measured < expected * (100 - u.tolerancePct) / 100
     let closes (z : Nat) (reason : FaultReason) : Prop :=
       ∀ q x, s.run? z = some q → q.state = .opened → q.destination = none → s.record? z = some x →
         (∃ o ∈ x.outputs, o.status = .opened) →
         ∃ q', t.run? z = some q' ∧ q'.state = .closing ∧ q'.destination = some (.fault reason)
     (u.state = .on → expected * (100 + u.tolerancePct) / 100 < measured → 1 ≤ u.highCount →
       t.supply.highCount = 0 ∧
       (∀ z, s.arb.openOrder.getLast? = some z → closes z .highFlow) ∧
       (s.arb.openOrder = [] → t.supply.state = .tripped ∧ t.supply.tripCause = some .highFlowMain ∧ t.mvOut = false)) ∧
     (u.state = .on → isLow → 2 ≤ u.lowCount →
       t.supply.lowCount = 0 ∧
       (∀ z, s.arb.openOrder = [z] → closes z .noFlow) ∧
       (2 ≤ s.arb.openOrder.length → t.arb = s.arb ∧ t.supply.lowAlarmed = true ∧
         (u.lowAlarmed = false → t.link = s.link.post (.flowAlarm measured expected s.arb.openOrder.length)) ∧
         (u.lowAlarmed = true → t.link = s.link))) ∧
     (u.state = .idle → u.leakThreshold ≤ measured → 2 ≤ u.leakCount →
       t.supply.state = .tripped ∧ t.supply.tripCause = some .leak ∧ t.supply.leakCount = 0 ∧
       t.supply.timerEnd = none ∧ t.mvOut = false ∧
       (s.arb.runs = [] → t.link = s.link.post (.supplyEvent .trip (some .leak) (some .idle))) ∧
       (∀ q, s.arb.runs = [q] → q.state = .waiting ∨ q.state = .soaking ∨ q.state = .suspended → t.arb.runs = [])))

/-! ## Zones (chapter 1) -/

/-- ZONE_SET: the four tests in their order; an accepted request replaces the twelve fields from their bytes and moves
the zone by the table of R6, with one due decision in MONITOR (R5, R6, R10, R12). -/
def Obligations.ZoneSetConfiguresTheZone : Prop :=
  ∀ (tag : Byte) (p : List Byte) (s : State), s.Takes p → p.length = 20 →
    let at1 (i : Nat) : Nat := (p.getD i 0#8).toNat
    let at2 (i : Nat) : Nat := at1 i * 256 + at1 (i + 1)
    let z := at1 0
    let cfg : ZoneConfig :=
      { enabled := at1 1 = 1, low := at2 2, high := at2 4, secPerPoint := at1 6, maxRunS := at2 7, cycleMaxS := at2 9,
        soakS := at2 11, settleMin := at1 13, nominalFlow := at2 14, maxRunsPerDay := at1 16,
        timedIntervalDays := at1 17, timedS := at2 18 }
    let good := 1 ≤ z ∧ z ≤ 48 ∧ at1 1 ≤ 1 ∧ cfg.low ≤ 999 ∧ 1 ≤ cfg.high ∧ cfg.high ≤ 1000 ∧ 1 ≤ cfg.secPerPoint ∧
      cfg.secPerPoint ≤ 60 ∧ 60 ≤ cfg.maxRunS ∧ cfg.maxRunS ≤ 7200 ∧
      (cfg.cycleMaxS = 0 ∨ 60 ≤ cfg.cycleMaxS ∧ cfg.cycleMaxS ≤ 3600) ∧ 60 ≤ cfg.soakS ∧ cfg.soakS ≤ 7200 ∧
      cfg.settleMin ≤ 240 ∧ 1 ≤ cfg.nominalFlow ∧ cfg.nominalFlow ≤ 2000 ∧ 1 ≤ cfg.maxRunsPerDay ∧
      cfg.maxRunsPerDay ≤ 8 ∧ cfg.timedIntervalDays ≤ 14 ∧ 60 ≤ cfg.timedS ∧ cfg.timedS ≤ 7200 ∧
      cfg.low < cfg.high ∧ cfg.nominalFlow ≤ s.supply.cap
    (¬ good → s.zones.length = 48 → RefusedWith (.zoneSet tag p) 0x0B#8 tag .badField s) ∧
    (good → s.zones.length = 48 → s.run? z ≠ none → RefusedWith (.zoneSet tag p) 0x0B#8 tag .conflict s) ∧
    (∀ old, good → s.run? z = none → s.zone? z = some old → s.Settled →
      let live := cfg.enabled = true ∧ old.outputs ≠ []
      ∃ t lost estimate, exec (.zoneSet tag p) s = .next t ∧ t.Answered (replyFrame 0x0B#8 tag .ok []) ∧
        s.MeanWetness old.channels estimate ∧
        (lost = true ↔ ∃ ref ∈ old.outputs, ∀ d, s.device? ref.serial = some d → ¬ (d.state = .ready ∧ d.enrolled = true)) ∧
        let r : Zone := { old with cfg := cfg, estimate := estimate, unreachable := lost }
        (live → old.state = .unmapped ∨ old.state = .monitor → State.Judged z r s t) ∧
        (¬ live → old.state = .unmapped → t.zones = s.zones.set (z - 1) r ∧ t.arb = s.arb) ∧
        (¬ live → old.state = .monitor ∨ old.state = .settling →
          t.zones = s.zones.set (z - 1) { r with state := .unmapped, settleEnd := none } ∧ t.arb = s.arb) ∧
        (live ∧ old.state = .settling ∨ old.state = .faulted → t.zones = s.zones.set (z - 1) r ∧ t.arb = s.arb))

/-- ZONE_MAP: the six tests in their order; an accepted request replaces both lists from their bytes, sets the mode, and
moves the zone by the table of R6 (R8, R9, R10, R12). -/
def Obligations.ZoneMapReplacesTheLists : Prop :=
  ∀ (tag zone : Byte) (outs chans : List Ref) (s : State), (∀ r ∈ outs ++ chans, r.num < 256) →
    let refs (l : List Ref) : List Byte := BitVec.ofNat 8 l.length :: l.flatMap refBytes
    let p := [zone] ++ refs outs ++ refs chans
    let z := zone.toNat
    let test1 := 1 ≤ z ∧ z ≤ 48 ∧ outs.length ≤ 2 ∧ chans.length ≤ 3 ∧ (∀ r ∈ outs, 1 ≤ r.num ∧ r.num ≤ 4) ∧
      ∀ r ∈ chans, 1 ≤ r.num ∧ r.num ≤ 3
    let test2 := outs.Nodup ∧ chans.Nodup
    let enrolledAs (kind : DeviceKind) (r : Ref) : Prop :=
      ∃ d, s.device? r.serial = some d ∧ d.enrolled = true ∧ (d.kind = kind ∨ d.kind = .unknown)
    let test4 := (∀ r ∈ outs, enrolledAs .decoder r) ∧ ∀ r ∈ chans, enrolledAs .probe r
    let test5 := ∀ r ∈ outs ++ chans, ∀ d, s.device? r.serial = some d → d.kind ≠ .unknown → r.num ≤ d.count.getD 0
    let test6 := ∀ r ∈ outs, ∀ y v, 1 ≤ y → y ≤ 48 → y ≠ z → s.zone? y = some v → r ∉ v.outputs
    let conflict := RefusedWith (.zoneMap tag p) 0x0D#8 tag .conflict s
    let badField := RefusedWith (.zoneMap tag p) 0x0D#8 tag .badField s
    s.Takes p → s.zones.length = 48 →
    (¬ (test1 ∧ test2) → badField) ∧
    (test1 → test2 → s.run? z ≠ none → conflict) ∧
    (test1 → test2 → s.run? z = none → ¬ test4 → RefusedWith (.zoneMap tag p) 0x0D#8 tag .notEnrolled s) ∧
    (test1 → test2 → s.run? z = none → test4 → ¬ test5 → badField) ∧
    (test1 → test2 → s.run? z = none → test4 → test5 → ¬ test6 → conflict) ∧
    (∀ old, test1 → test2 → s.run? z = none → test4 → test5 → test6 → s.zone? z = some old → s.Settled →
      let live := old.cfg.enabled = true ∧ outs ≠ []
      ∃ t lost estimate, exec (.zoneMap tag p) s = .next t ∧ t.Answered (replyFrame 0x0D#8 tag .ok []) ∧
        s.MeanWetness chans estimate ∧
        (lost = true ↔ ∃ ref ∈ outs, ∀ d, s.device? ref.serial = some d → ¬ (d.state = .ready ∧ d.enrolled = true)) ∧
        let r : Zone := { old with outputs := outs, channels := chans,
                                   mode := if chans = [] then .timed else .sensed, estimate := estimate,
                                   unreachable := lost }
        (live → old.state = .unmapped ∨ old.state = .monitor → State.Judged z r s t) ∧
        (¬ live → old.state = .unmapped → t.zones = s.zones.set (z - 1) r ∧ t.arb = s.arb) ∧
        (¬ live → old.state = .monitor ∨ old.state = .settling →
          t.zones = s.zones.set (z - 1) { r with state := .unmapped, settleEnd := none } ∧ t.arb = s.arb) ∧
        (live ∧ old.state = .settling ∨ old.state = .faulted → t.zones = s.zones.set (z - 1) r ∧ t.arb = s.arb))

/-- ZONE_GET is answered with the whole record, in 35 + 5 × (n + m) bytes counting the status, and changes no state; a
number outside 1..48 is refused (R7, section 11.9). -/
def Obligations.ZoneGetReportsTheRecord : Prop :=
  ∀ (tag zone : Byte) (s : State), s.Takes [zone] → s.zones.length = 48 →
    (zone.toNat = 0 ∨ 48 < zone.toNat → RefusedWith (.zoneGet tag [zone]) 0x0C#8 tag .badField s) ∧
    (∀ r, s.zone? zone.toNat = some r →
      let c := r.cfg
      let run := s.run? zone.toNat
      let cfgBytes := [flagByte c.enabled] ++ u16 c.low ++ u16 c.high ++ [u8 c.secPerPoint] ++ u16 c.maxRunS ++
        u16 c.cycleMaxS ++ u16 c.soakS ++ [u8 c.settleMin] ++ u16 c.nominalFlow ++
        [u8 c.maxRunsPerDay, u8 c.timedIntervalDays] ++ u16 c.timedS
      let bytes := [zone] ++ cfgBytes ++ [u8 r.outputs.length] ++ r.outputs.flatMap refBytes ++
        [u8 r.channels.length] ++ r.channels.flatMap refBytes ++ [u8 r.state.code, u8 r.mode.code] ++
        opt16 r.estimate ++ [u8 r.runsToday, u8 r.daysSinceRun, opt8 (r.faultReason.map (·.code)),
          u8 ((if r.capped then 1 else 0) + (if r.unreachable then 2 else 0))] ++
        opt16 (r.settleEnd.map (· - s.clock.uptime)) ++
        [opt8 (run.map (·.origin.code)), opt8 (run.map (·.state.code))]
      OnlyAnswers (.zoneGet tag [zone]) 0x0C#8 tag bytes s ∧
      bytes.length + 1 = 35 + 5 * (r.outputs.length + r.channels.length))

/-- FAULT_CLEAR: refused for a number outside 1..48 and for a zone that is not FAULTED; accepted, the reason is absent,
the zone is in MONITOR if it is enabled with outputs and in UNMAPPED otherwise, ZONE_STATE follows the reply, and the
zone is not judged; the supply is not reached (R21, R4). SETTLE_EXPIRY: the zone goes to MONITOR without a settle timer
and is judged once; a timer that has not fallen due, or a zone that is not SETTLING, is left alone (R3; the guard is log
2's). -/
def Obligations.FaultClearAndSettleExpiryReturnTheZone : Prop :=
  (∀ (tag zone : Byte) (s : State), s.Takes [zone] → s.zones.length = 48 →
     let z := zone.toNat
     (z = 0 ∨ 48 < z → RefusedWith (.faultClear tag [zone]) 0x0E#8 tag .badField s) ∧
     (∀ r, s.zone? z = some r → r.state ≠ .faulted → RefusedWith (.faultClear tag [zone]) 0x0E#8 tag .conflict s) ∧
     (∀ r, s.zone? z = some r → r.state = .faulted → s.Settled →
       let st : ZoneState := if r.cfg.enabled = true ∧ r.outputs ≠ [] then .monitor else .unmapped
       ∃ t, exec (.faultClear tag [zone]) s = .next t ∧
         t.zones = s.zones.set (z - 1) { r with state := st, faultReason := none, settleEnd := none } ∧
         t.link = (s.link.queueReply (replyFrame 0x0E#8 tag .ok [])).post
           (.zoneState z st none r.estimate r.capped r.unreachable) ∧
         t.arb = s.arb ∧ t.supply = s.supply)) ∧
  (∀ (z : Nat) (s : State),
     (∀ r e, s.zone? z = some r → r.state = .settling → r.settleEnd = some e → e ≤ s.clock.uptime → s.Settled →
       s.run? z = none →
       ∃ t, exec (.settleExpiry z) s = .next t ∧ State.Judged z { r with state := .monitor, settleEnd := none } s t) ∧
     ((∀ r e, s.zone? z = some r → r.state = .settling → r.settleEnd = some e → s.clock.uptime < e) →
       exec (.settleExpiry z) s = .next s))

/-! ## Runs and valves (chapters 2 and 3) -/

/-- An enqueue takes the counter's value as its seq and its place in the order of class and seq; at the counter's top
the queue is renumbered in order (R25 to R27). -/
def Obligations.EnqueueKeepsTheQueueInOrder : Prop :=
  ∀ (a : Arbiter) (r : Run), a.nextSeq ≤ 4294967295 → (∀ q ∈ a.runs, q.seq < a.nextSeq) →
    let ahead (x y : Run) : Prop :=
      x.origin.cls < y.origin.cls ∨ (x.origin.cls = y.origin.cls ∧ x.seq < y.seq)
    a.runs.Pairwise ahead →
    let b := a.enqueue r
    b.runs.Pairwise ahead ∧ b.runs.length = a.runs.length + 1 ∧ (∀ q ∈ b.runs, q.seq < b.nextSeq) ∧
    b.flowSum = a.flowSum ∧ b.openCount = a.openCount ∧ b.openOrder = a.openOrder ∧
    (a.nextSeq < 4294967295 →
      b.nextSeq = a.nextSeq + 1 ∧ b.runs.Perm ({ r with seq := a.nextSeq } :: a.runs)) ∧
    (a.nextSeq = 4294967295 → b.nextSeq = b.runs.length ∧ b.runs.map (·.seq) = List.range b.runs.length)

/-- RUN_NOW: the five tests in their order; accepted, the zone is DUE with a MANUAL run of the length and the choices
asked for, SUSPENDED under a MANUAL hold and else WAITING (told with the line OFF, since it is an admission
opportunity), and the reply carries its seq and first state (R25, R26, R31). That a bad split or respect_windows byte is
refused within the first test, ahead of every CONFLICT, is the model's choice (log 61). -/
def Obligations.RunNowEnqueuesAManualRun : Prop :=
  ∀ (zone b1 b2 sp tag : Byte) (more : List Byte) (s : State), more.length ≤ 1 →
    let p := [zone, b1, b2, sp] ++ more
    let z := zone.toNat
    let seconds := b1.toNat * 256 + b2.toNat
    let respect := decide (more = [1#8])
    let inRange := 1 ≤ z ∧ z ≤ 48 ∧ 1 ≤ seconds ∧ seconds ≤ 7200 ∧ sp.toNat ≤ 1 ∧ ∀ b ∈ more, b.toNat ≤ 1
    let first : RunState := if s.hold.manual then .suspended else .waiting
    s.Takes p → s.zones.length = 48 →
    (¬ inRange → RefusedWith (.runNow tag p) 0x0F#8 tag .badField s) ∧
    (∀ r, inRange → s.zone? z = some r →
      s.run? z ≠ none ∨ r.state = .faulted ∨ r.state = .unmapped ∨ s.hold.freeze = true ∨ s.supply.state = .tripped →
      RefusedWith (.runNow tag p) 0x0F#8 tag .conflict s) ∧
    (∀ r, inRange → s.zone? z = some r → s.run? z = none → r.state ≠ .faulted → r.state ≠ .unmapped →
      s.hold.freeze = false → s.supply.state ≠ .tripped → s.arb.nextSeq < 4294967295 → s.Settled →
      ∃ t q r', exec (.runNow tag p) s = .next t ∧ q ∈ t.arb.runs ∧ q.zone = z ∧ q.origin = .manual ∧
        q.seq = s.arb.nextSeq ∧ q.totalS = seconds ∧ q.remainingS = seconds ∧ q.split = decide (sp.toNat = 1) ∧
        q.respectWindows = respect ∧ q.enqueuedAt = s.clock.uptime ∧ q.opened = false ∧
        t.arb.nextSeq = s.arb.nextSeq + 1 ∧
        t.Answered (replyFrame 0x0F#8 tag .ok (u32 (BitVec.ofNat 32 s.arb.nextSeq) ++ [u8 first.code])) ∧
        t.zone? z = some r' ∧ r'.state = .due ∧ (r.state = .settling → r'.settleEnd = none) ∧
        (s.hold.manual = true → q.state = .suspended ∧ q.suspHold = true) ∧
        (s.hold.manual = false → s.line.state = .off → q.state = .waiting))

/-- CANCEL_RUN: refused for a number outside 1..48 and for a zone without a run; else answered with the state found, and
the run is stopped by that state with CANCELLED: it leaves at once, or is marked to close, or closes, or is offered
CANCELLED (R39, R40, R57, R59, R60). CANCEL_ALL and RESET PLAN are told of a queue in which no run is admitted.
CANCEL_ALL is answered with the number of runs, and they leave at once; RESET with scope PLAN is answered OK, zeroes the
daily counts, ends settling and a MANUAL hold, and cancels the queue in the same way; the supply record, the clock and the
grid are kept (R23, R41, R48, R83, R99, R113). That the runs are cancelled before the MANUAL hold ends, so that its end
admits none of them, is the model's choice (log 19). -/
def Obligations.CancelsStopRunsByTheirState : Prop :=
  (∀ (tag zone : Byte) (s : State), s.Takes [zone] → s.zones.length = 48 → s.Settled →
     let z := zone.toNat
     let request := Instr.cancelRun tag [zone]
     (z = 0 ∨ 48 < z → RefusedWith request 0x10#8 tag .badField s) ∧
     (1 ≤ z → z ≤ 48 → s.run? z = none → RefusedWith request 0x10#8 tag .conflict s) ∧
     (∀ r q, s.zone? z = some r → s.run? z = some q →
       ∃ t, exec request s = .next t ∧ t.Answered (replyFrame 0x10#8 tag .ok [u8 q.state.code]) ∧
         (q.state = .waiting ∨ q.state = .soaking ∨ q.state = .suspended ∨
             (q.state = .opening ∧ s.openHanded z = false) →
           (∀ q' ∈ t.arb.runs, q'.zone ≠ z) ∧ ∃ r', t.zone? z = some r' ∧ r'.state = .monitor) ∧
         (∀ x, q.state = .opening → s.record? z = some x → x.openHanded = true → x.inFlight ≠ none →
           t.run? z = some { q with closePending := true, destination := Dest.offer q.destination .cancelled }) ∧
         (∀ x start len, q.state = .opened → s.record? z = some x → (∃ o ∈ x.outputs, o.status = .opened) →
           x.cycleStart = some start → q.cycleS = some len → q.destination = none →
           let left := q.remainingS - min (s.clock.uptime - start) len
           t.run? z = some { q with state := .closing, remainingS := left, closePending := false,
                                    destination := some (if left = 0 then .complete else .cancelled) } ∧
           ∃ x', t.record? z = some x' ∧ x'.closeLimitAt = some (s.timeBase + 20000) ∧ x'.cycleEnd = none) ∧
         (q.state = .closing → t.run? z = some { q with destination := Dest.offer q.destination .cancelled }))) ∧
  (∀ (tag : Byte) (s : State), s.Settled →
     (∀ q ∈ s.arb.runs, q.state = .waiting ∨ q.state = .soaking ∨ q.state = .suspended) →
     (s.Takes [] →
       ∃ t, exec (.cancelAll tag []) s = .next t ∧ t.Answered (replyFrame 0x11#8 tag .ok [u8 s.arb.runs.length]) ∧
         t.arb.runs = [] ∧ t.arb.flowSum = s.arb.flowSum ∧ t.arb.openCount = s.arb.openCount ∧
         t.arb.nextSeq = s.arb.nextSeq ∧ t.supply = { s.supply with windowDiscard := t.supply.windowDiscard }) ∧
     (s.Takes [0#8] → s.zones.length = 48 →
       ∃ t, exec (.resetPlan tag [0#8]) s = .next t ∧ t.Answered (replyFrame 0x1F#8 tag .ok []) ∧
         t.arb.runs = [] ∧ t.arb.nextSeq = s.arb.nextSeq ∧
         t.supply = { s.supply with windowDiscard := t.supply.windowDiscard } ∧ t.clock = s.clock ∧ t.grid = s.grid ∧
         t.hold = { s.hold with manual := false, manualEnd := if s.hold.manual then none else s.hold.manualEnd } ∧
         (∀ r' ∈ t.zones, r'.runsToday = 0 ∧ r'.daysSinceRun = 0 ∧ r'.capped = false ∧ r'.state ≠ .settling)))

/-- One admission scan, told of a single waiting run: it is admitted when it passes the seven tests and fits the budget,
which is charged, its record is made and the first admission opens the master valve; it is passed over otherwise, and a
QUIET line is asked to wake for a run that fails the line test alone (R32, R33, R35, R37, R50, R70); that FREEZE counts
in the hold test is log 29's, the model's reading. The order of a scan, told of two eligible runs of different zones of
which the first does not fit and the second does: the second is admitted and the first gains a skip, blocking at the
eighth; a first run with blocking set stops the walk (R35, R36). -/
def Obligations.ScanAdmitsInQueueOrder : Prop :=
  (∀ (s : State) (q : Run) (r : Zone), s.arb.runs = [q] → s.zone? q.zone = some r →
     let applies := s.hold.manual = true ∨ s.hold.freeze = true ∨
       (q.origin ≠ .manual ∧ (s.hold.rainActive = true ∨ s.hold.wind = true))
     let eligible := q.state = .waiting ∧ r.unreachable = false ∧
       (q.respectWindows = true → s.clock.valid = true ∧ Bank.isOpen s.grid.active q.zone s.clock.slot = true) ∧
       (q.origin ≠ .manual → s.clock.valid = true) ∧ ¬ applies ∧ s.supply.state ≠ .tripped
     let fits := s.arb.flowSum + r.cfg.nominalFlow ≤ s.supply.cap ∧ s.arb.openCount < s.supply.maxOpen
     (eligible → s.line.state = .on → fits →
       (∃ q', s.scan.arb.runs = [q'] ∧ q'.zone = q.zone ∧ q'.state = .opening ∧ q'.skipCount = 0 ∧ q'.blocking = false ∧
         q'.seq = q.seq ∧ q'.remainingS = q.remainingS) ∧
       s.scan.arb.flowSum = s.arb.flowSum + r.cfg.nominalFlow ∧ s.scan.arb.openCount = s.arb.openCount + 1 ∧
       (∃ x, x ∈ s.scan.seqr.records ∧ x.zone = q.zone ∧ x.outputs.map (·.ref) = r.outputs) ∧
       (s.arb.openCount = 0 → s.supply.state = .idle → 0 < s.supply.leadS →
         s.scan.supply.state = .lead ∧ s.scan.supply.timerEnd = some (s.clock.uptime + s.supply.leadS)) ∧
       (s.arb.openCount = 0 → (s.supply.state = .idle ∧ s.supply.leadS = 0) ∨ s.supply.state = .lag →
         s.scan.supply.state = .on ∧ s.scan.supply.timerEnd = none)) ∧
     (¬ (eligible ∧ s.line.state = .on ∧ fits) →
       s.scan.arb = s.arb ∧ s.scan.supply = s.supply ∧ s.scan.seqr = s.seqr ∧
       (eligible → s.line.state = .quiet →
         s.scan.line = { s.line with state := .waking, stateEnd := some (s.timeBase + 300) }) ∧
       (¬ (eligible ∧ s.line.state = .quiet) → s.scan.line = s.line))) ∧
  (∀ (s : State) (a b : Run), s.arb.runs = [a, b] → a.zone ≠ b.zone → s.line.state = .on →
     s.eligibleBut a = true → s.eligibleBut b = true → s.fits a.zone = false → s.fits b.zone = true →
     (a.blocking = true → s.scan.arb = s.arb) ∧
     (a.blocking = false →
       ∃ b', s.scan.arb.runs =
           [{ a with skipCount := min 8 (a.skipCount + 1), blocking := decide (8 ≤ a.skipCount + 1) }, b'] ∧
         b'.zone = b.zone ∧ b'.state = .opening ∧ b'.skipCount = 0))

/-- RUN_EXPIRY: a run that is not admitted leaves EXPIRED 86400 s after its enqueue, and its zone goes to MONITOR; an
admitted run, and one whose time has not come, is left alone (R2, R29, R38). CYCLE_TIMER_EXPIRY: the close decision of a
run in OPEN takes the cycle's seconds off remaining_s, offers SOAKING, and COMPLETE as well when nothing remains, starts
the 20 s close limit, and the run is CLOSING (R57, R60); SOAK_EXPIRY makes a SOAKING run WAITING (R61; told with the
line OFF, since it is an admission opportunity). Timers that have not fallen due do nothing (log 2). -/
def Obligations.RunTimersExpire : Prop :=
  (∀ (z : Nat) (s : State),
     (∀ q r, s.run? z = some q → s.zone? z = some r → q.enqueuedAt + 86400 ≤ s.clock.uptime →
       q.state = .waiting ∨ q.state = .soaking ∨ q.state = .suspended →
       ∃ t r', exec (.runExpiry z) s = .next t ∧ (∀ q' ∈ t.arb.runs, q'.zone ≠ z) ∧ t.zone? z = some r' ∧
         r'.state = .monitor ∧ t.arb.nextSeq = s.arb.nextSeq ∧
         (s.arb.runs = [q] → r.state ≠ .monitor → s.Settled →
           t.link = (s.link.post (.runDone z q.origin .expired (q.totalS - q.remainingS))).post
             (.zoneState z .monitor none r.estimate r.capped r.unreachable))) ∧
     ((∀ q, s.run? z = some q → s.clock.uptime < q.enqueuedAt + 86400 ∨ q.state = .opening ∨ q.state = .opened ∨
         q.state = .closing) →
       exec (.runExpiry z) s = .next s)) ∧
  (∀ (z : Nat) (s : State) (q : Run), s.run? z = some q → s.Settled →
     (∀ x start len e, q.state = .opened → s.record? z = some x → (∃ o ∈ x.outputs, o.status = .opened) →
       x.cycleStart = some start → q.cycleS = some len → x.cycleEnd = some e → e ≤ s.clock.uptime →
       q.destination = none →
       let left := q.remainingS - min (s.clock.uptime - start) len
       ∃ t x', exec (.cycleTimerExpiry z) s = .next t ∧
         t.run? z = some { q with state := .closing, remainingS := left, closePending := false,
                                  destination := some (if left = 0 then .complete else .soaking) } ∧
         t.record? z = some x' ∧ x'.closeLimitAt = some (s.timeBase + 20000) ∧ x'.cycleEnd = none ∧
         t.supply.windowDiscard = true) ∧
     ((∀ x e, q.state = .opened → s.record? z = some x → x.cycleEnd = some e → s.clock.uptime < e) →
       exec (.cycleTimerExpiry z) s = .next s) ∧
     (∀ e, q.state = .soaking → q.soakEnd = some e → e ≤ s.clock.uptime → s.line.state = .off →
       ∃ t, exec (.soakExpiry z) s = .next t ∧ t.run? z = some { q with state := .waiting, soakEnd := none } ∧
         t.seqr = s.seqr ∧ t.supply = s.supply) ∧
     ((∀ e, q.state = .soaking → q.soakEnd = some e → s.clock.uptime < e) → exec (.soakExpiry z) s = .next s))

/-- CLOSE_LIMIT_EXPIRY is a close failure: the run leaves with FAULT and its zone is FAULTED with STUCK, the supply is
TRIPPED with its first cause, and three ALL_CLOSE broadcasts go to the Scheduler (told of the only run, with entries
free) (R65, R66, R73, R74); a limit that has not fallen due does nothing (the guard is log 2's). -/
def Obligations.CloseLimitTakesTheStuckPath : Prop :=
  ∀ (z : Nat) (s : State),
    (∀ q x r e, s.arb.runs = [q] → q.zone = z → s.zone? z = some r → s.record? z = some x →
      q.state = .opening ∨ q.state = .opened ∨ q.state = .closing → x.closeLimitAt = some e → e ≤ s.timeBase →
      s.sched.entries.length = 16 → s.sched.waits = [] → 3 ≤ s.sched.entries.countP (·.state = .free) →
      ∃ t r', exec (.closeLimitExpiry z) s = .next t ∧ t.arb.runs = [] ∧ t.record? z = none ∧
        t.zone? z = some r' ∧ r'.state = .faulted ∧ r'.faultReason = some .stuck ∧
        t.supply.state = .tripped ∧ t.mvOut = false ∧
        t.supply.tripCause = (if s.supply.state = .tripped then s.supply.tripCause else some .stuck) ∧
        3 ≤ t.sched.entries.countP (fun y => y.state ≠ .free ∧ y.origin = .valve ∧ y.op = .allClose)) ∧
    ((∀ x e, s.record? z = some x → x.closeLimitAt = some e → s.timeBase < e) →
      exec (.closeLimitExpiry z) s = .next s)

/-! ## Soil sensing (chapter 7) -/

/-- A reading is judged by the first test that applies and taken into its channel record, and the reply of a poll or of
a PROBE_READ makes every channel record of the probe take its reading (R118, R123, R126); that bits 14 to 12 of a MEASURE
word are ignored (log 58), that bytes beyond the layout are (log 62) and that a missing byte is free (log 13) is the model's. -/
def Obligations.ReadingsAreJudged : Prop :=
  (∀ (c : Channel) (now interval : Nat) (payload : List Byte) (b0 b1 : Byte), 1 ≤ c.channel →
    payload[2 * (c.channel - 1)]? = some b0 → payload[2 * (c.channel - 1) + 1]? = some b1 →
    let word := b0.toNat * 256 + b1.toNat
    let raw := word % 4096
    let faulty := 32768 ≤ word
    let valid := 1 ≤ c.dry ∧ c.dry ≤ 4094 ∧ 1 ≤ c.wet ∧ c.wet ≤ 4094 ∧ c.dry < c.wet
    let outside := (raw : Int) < (c.dry : Int) - 200 ∨ c.wet + 200 < raw
    let r := Channel.measure now interval payload c
    r.serial = c.serial ∧ r.channel = c.channel ∧ r.dry = c.dry ∧ r.wet = c.wet ∧ r.lastRaw = some raw ∧
    r.readingAt = some now ∧ r.fresh = true ∧ r.staleAt = some (now + 3 * interval * 60) ∧
    (¬ valid → r.quality = .calBad ∧ r.lastWetness = none) ∧
    (valid → raw = 0 ∨ raw = 4095 ∨ faulty → r.quality = .sensorFault ∧ r.lastWetness = none) ∧
    (valid → ¬ (raw = 0 ∨ raw = 4095 ∨ faulty) → outside → r.quality = .outOfRange ∧ r.lastWetness = none) ∧
    (valid → ¬ (raw = 0 ∨ raw = 4095 ∨ faulty) → ¬ outside → r.quality = .good ∧
      (raw ≤ c.dry → r.lastWetness = some 0) ∧ (c.wet ≤ raw → r.lastWetness = some 1000) ∧
      (c.dry < raw → raw < c.wet → r.lastWetness = some ((raw - c.dry) * 1000 / (c.wet - c.dry))))) ∧
  (∀ (s : State) (i : Nat) (e : Entry) (d : Device) (ch : Nat) (c : Channel) (address : BitVec 6) (tag : Byte)
      (payload : List Byte),
    s.line.state.powered = true → s.Accepts i e address tag → e.detached = false → s.device? e.subject = some d →
    1 ≤ ch → ch ≤ 3 → s.channel? e.subject ch = some c → payload.length ≤ 12 →
    (e.origin = .poll ∧ (∀ w ∈ s.sched.waits, w.req.subject ≠ e.subject) ∧
        ∃ r, s.poll? e.subject = some r ∧ r.state = .inFlight ∧ r.entry = some (i, e.gen)) ∨
      (e.origin = .link ∧ ∃ k x, e.slot = some k ∧ s.link.slots[k]? = some x ∧ x.state = .waiting ∧
        x.kind = .probeRead) →
    ∃ t, exec (.fieldReplyReceived address tag 0#8 payload) s = .next t ∧
      t.channel? e.subject ch = some (Channel.measure s.clock.uptime d.pollInterval payload c))

/-- A poll that falls due asks for its MEASURE and is IN_FLIGHT, or waits for an entry and is DEFERRED; when its
transaction ends with an answer the poll is WAITING again an interval on and the miss count is 0; a staleness timer
makes its record not fresh and each zone that maps the channel takes the estimate of its channels as they then stand.
Timers that have not fallen due do nothing (R119, R122, R123, R13; the guard is log 2's). That an answer whose payload is
shorter or longer than its layout counts as one is the model's (logs 13 and 62). -/
def Obligations.PollsAndStalenessRunOnTheirTimers : Prop :=
  (∀ (n : Serial) (s : State) (r : PollRec) (a e : Nat), s.Settled → s.poll? n = some r → s.addrOf n = some a →
    r.state = .waiting → r.nextPoll = some e →
    (e ≤ s.clock.uptime → s.HasRoom →
      ∃ t i y, exec (.pollDue n) s = .next t ∧ i < 12 ∧ t.sched.entries[i]? = some y ∧
        (y.state = .queued ∨ y.state = .sent) ∧ y.origin = .poll ∧ y.op = .measure ∧ y.address = a ∧
        y.replyAddr = some a ∧ y.payload = [] ∧
        t.poll? n = some { r with state := .inFlight, nextPoll := none, dueSince := none, entry := some (i, y.gen) } ∧
        (s.line.state = .quiet → t.line.state = .waking ∧ t.line.stateEnd = some (s.timeBase + 300))) ∧
    (e ≤ s.clock.uptime → ¬ s.HasRoom →
      ∃ t w, exec (.pollDue n) s = .next t ∧ t.sched.waits = s.sched.waits ++ [w] ∧ w.req.origin = .poll ∧
        w.req.subject = n ∧ w.req.op = .measure ∧ w.joinedAt = s.timeBase ∧
        t.poll? n = some { r with state := .deferred, nextPoll := none, dueSince := some e }) ∧
    (s.clock.uptime < e → exec (.pollDue n) s = .next s)) ∧
  (∀ (s : State) (i : Nat) (e : Entry) (r : PollRec) (d : Device) (address : BitVec 6) (tag status : Byte)
      (payload : List Byte),
    s.line.state.powered = true → s.Accepts i e address tag → e.detached = false → e.origin = .poll →
    s.poll? e.subject = some r → r.state = .inFlight → r.entry = some (i, e.gen) → s.device? e.subject = some d →
    d.state = .ready → status ≠ 1#8 → (∀ w ∈ s.sched.waits, w.req.subject ≠ e.subject) → payload.length ≤ 12 →
    ∃ t, exec (.fieldReplyReceived address tag status payload) s = .next t ∧
      t.poll? e.subject = some { r with state := .waiting, nextPoll := some (s.clock.uptime + d.pollInterval * 60),
                                        dueSince := none, entry := none } ∧
      t.device? e.subject = some { d with missCount := 0 } ∧
      (status ≠ 0#8 → status ≠ 5#8 → t.poller.channels = s.poller.channels)) ∧
  (∀ (n : Serial) (ch : Nat) (s : State) (c : Channel) (e : Nat), s.channel? n ch = some c → c.fresh = true →
    c.staleAt = some e →
    (e ≤ s.clock.uptime →
      ∃ t, exec (.stalenessExpiry n ch) s = .next t ∧
        t.channel? n ch = some { c with fresh := false, staleAt := none } ∧
        ∀ z r, z ≤ 48 → s.zone? z = some r → ({ serial := n, num := ch } : Ref) ∈ r.channels →
          ∃ r', t.zone? z = some r' ∧ t.MeanWetness r.channels r'.estimate) ∧
    (s.clock.uptime < e → exec (.stalenessExpiry n ch) s = .next s))

/-! ## Field devices (chapter 8) -/

/-- DEVICE_LIST is answered with the number of records and the eight records of its page, DEVICE_GET with the whole
record and a probe's channels; neither changes any state. A page above 4, or a serial without a record, is refused
(R142, section 11.9; what stands for a channel without a record is log 40's choice). -/
def Obligations.DeviceListAndGetReportTheTable : Prop :=
  ∀ (tag : Byte) (s : State),
    let flags (d : Device) : Byte :=
      u8 ((if d.duplicate then 1 else 0) + (if d.kindMismatch then 2 else 0))
    let entry (d : Device) : List Byte :=
      u32 d.serial ++ [u8 d.kind.code, u8 d.state.code, flagByte d.enrolled, opt8 d.shortAddr, flags d, u8 d.missCount]
    let held : List Device := s.devs.table.filterMap id
    (∀ page : Byte, s.Takes [page] →
      (4 < page.toNat → RefusedWith (.deviceList tag [page]) 0x16#8 tag .badField s) ∧
      (page.toNat ≤ 4 →
        OnlyAnswers (.deviceList tag [page]) 0x16#8 tag
          (u8 held.length :: ((held.drop (8 * page.toNat)).take 8).flatMap entry) s)) ∧
    (∀ b0 b1 b2 b3 : Byte, s.Takes [b0, b1, b2, b3] →
      let n : Serial := b0 ++ b1 ++ b2 ++ b3
      (s.device? n = none → RefusedWith (.deviceGet tag [b0, b1, b2, b3]) 0x17#8 tag .noDevice s) ∧
      (∀ d, s.device? n = some d →
        let channel (ch : Nat) : List Byte :=
          match s.channel? d.serial ch with
          | some c => [1#8] ++ opt16 c.lastWetness ++ [u8 c.quality.code, flagByte c.fresh]
          | none => [0#8, 0xFF#8, 0xFF#8, 0#8, 0#8]
        OnlyAnswers (.deviceGet tag [b0, b1, b2, b3]) 0x17#8 tag
          (u32 d.serial ++ [u8 d.kind.code, opt8 d.model, opt8 d.count, opt8 d.shortAddr, u8 d.state.code,
            flagByte d.enrolled, flags d, u8 d.missCount, u8 d.pollInterval] ++
            if d.kind = .probe then (List.range' 1 (d.count.getD 0)).flatMap channel else []) s))

/-- ENROL by the table of R138: a record is made, after an eviction when the table is full and a record may be evicted,
or a record that is present is enrolled, takes the interval and loses its flags; a READY probe becomes IDENTIFYING and its
calibration is asked for, one that is enrolled already too, which is the model's reading (log 53), and the channel records
of a probe are kept (R116); an eviction is told where the created_seq values differ. RETIRE removes the record, its channel
records and its poll record, and its address waits for its release (R129, R130, R133, R138, R139). -/
def Obligations.EnrolAndRetireKeepTheDeviceTable : Prop :=
  ∀ (b0 b1 b2 b3 iv tag : Byte) (s : State),
    let n : Serial := b0 ++ b1 ++ b2 ++ b3
    let enrol := Instr.enrol tag [b0, b1, b2, b3, iv]
    let retire := Instr.retire tag [b0, b1, b2, b3]
    let interval := if iv.toNat = 0 then 15 else iv.toNat
    let made : Device :=
      { serial := n, kind := .unknown, model := none, count := none, shortAddr := none, state := .unplaced,
        enrolled := true, duplicate := false, kindMismatch := false, missCount := 0, pollInterval := interval,
        createdSeq := s.devs.created }
    let answer (st : DeviceState) (isNew : Bool) : HostFrame := replyFrame 0x18#8 tag .ok [u8 st.code, flagByte isNew]
    let evictable (d : Device) : Prop := d.enrolled = false ∧ (d.state = .unplaced ∨ d.state = .ready)
    (s.Takes [b0, b1, b2, b3, iv] →
      (n = 0#32 ∨ 120 < iv.toNat → RefusedWith enrol 0x18#8 tag .badField s) ∧
      (n ≠ 0#32 → iv.toNat ≤ 120 →
        (∀ d, s.device? n = some d →
          let calibrates := d.state = .ready ∧ d.kind = .probe
          let st : DeviceState := if calibrates then .identifying else d.state
          ∃ t, exec enrol s = .next t ∧ t.Answered (answer st false) ∧
            t.device? n = some { d with enrolled := true, pollInterval := interval, duplicate := false,
                                        kindMismatch := false, state := st } ∧
            t.devs.created = s.devs.created ∧ t.poller.channels = s.poller.channels ∧
            (calibrates → t.poll? n = none ∧
              ∀ a, d.shortAddr = some a → s.HasRoom → t.HasAsked .discovery .readCal a (some a) [])) ∧
        (s.device? n = none → none ∈ s.devs.table →
          ∃ t, exec enrol s = .next t ∧ t.Answered (answer .unplaced true) ∧ t.device? n = some made ∧
            t.devs.created = min 4294967295 (s.devs.created + 1)) ∧
        (s.device? n = none → (∀ o ∈ s.devs.table, ∃ d, o = some d ∧ ¬ evictable d) →
          RefusedWith enrol 0x18#8 tag .conflict s) ∧
        (∀ v, s.device? n = none → none ∉ s.devs.table → s.device? v.serial = some v → evictable v →
          (∀ w, some w ∈ s.devs.table → evictable w → v.createdSeq < w.createdSeq ∨ w = v) →
          ∃ t, exec enrol s = .next t ∧ t.Answered (answer .unplaced true) ∧ t.device? n = some made ∧
            t.device? v.serial = none ∧ ∀ a, v.shortAddr = some a → a ∈ t.devs.releasing))) ∧
    (s.Takes [b0, b1, b2, b3] →
      (s.device? n = none → RefusedWith retire 0x19#8 tag .noDevice s) ∧
      (s.device? n ≠ none → (∃ r ∈ s.zones, ∃ ref ∈ r.outputs ++ r.channels, ref.serial = n) →
        RefusedWith retire 0x19#8 tag .conflict s) ∧
      (∀ d, s.device? n = some d → (∀ r ∈ s.zones, ∀ ref ∈ r.outputs ++ r.channels, ref.serial ≠ n) →
        ∃ t, exec retire s = .next t ∧ t.Answered (replyFrame 0x19#8 tag .ok []) ∧ t.device? n = none ∧
          (∀ m, m ≠ n → t.device? m = s.device? m) ∧ t.poll? n = none ∧
          (∀ ch, 1 ≤ ch → ch ≤ 3 → t.channel? n ch = none) ∧
          ∀ a, d.shortAddr = some a → a ∈ t.devs.releasing))

/-- SWEEP is refused while the line is not ON and else sets sweep_end 10 s on; at its expiry sweep_end is absent. A
window that falls due while the line is SWEEPING or ON and no record is PLACING sends an INVITE with the floor (R131,
R132). That it waits for an INVITE still outstanding is log 57's reading, what a sweep does to next_window log 23's; the
guards are log 2's. -/
def Obligations.SweepsAndWindowsAreHeld : Prop :=
  ∀ (tag : Byte) (s : State), s.Settled →
    let last := s.devs.lastWindowAt.getD s.timeBase
    let ready := (∃ e, s.devs.nextWindow = some e ∧ e ≤ s.timeBase) ∧
      (s.line.state = .sweeping ∨ s.line.state = .on) ∧ (∀ d, some d ∈ s.devs.table → d.state ≠ .placing) ∧
      s.NoWindowOpen
    (s.Takes [] → s.line.state ≠ .on → RefusedWith (.sweep tag []) 0x1A#8 tag .conflict s) ∧
    (s.Takes [] → s.line.state = .on →
      ∃ t, exec (.sweep tag []) s = .next t ∧ t.Answered (replyFrame 0x1A#8 tag .ok []) ∧ t.line.state = .on ∧
        t.devs = { s.devs with sweepEnd := some (s.clock.uptime + 10),
                               nextWindow := s.devs.nextWindow.map (min (max s.timeBase (last + 200))) }) ∧
    (∀ e, s.devs.sweepEnd = some e → e ≤ s.clock.uptime →
      ∃ t, exec .sweepEnd s = .next t ∧
        t.devs = { s.devs with sweepEnd := none, nextWindow := s.devs.nextWindow.map fun _ => last + 5000 }) ∧
    ((∀ e, s.devs.sweepEnd = some e → s.clock.uptime < e) → exec .sweepEnd s = .next s) ∧
    (ready → s.HasRoom →
      ∃ t, exec .announceWindowDue s = .next t ∧ t.devs = { s.devs with nextWindow := none } ∧
        t.HasAsked .discovery .invite 63 none (u32 s.devs.floor)) ∧
    (¬ ready → exec .announceWindowDue s = .next s)

/-- The end of an announce slot by the table of R131: the floor follows the result and the next window is set; a serial
goes to placement by R134, which gives it the lowest free address and an ASSIGN, makes a record for a new serial, skips
a flagged one, and reports one overflow of a table that cannot take it (R130, R131, R133, R134); the placement of a serial
that evicts a record is not told. That a PLACING record, which no window finds, is left as it is is log 57's. That a slot with a frame other than an ANNOUNCE still on the cable at its 30 ms ends as an
empty one is the model's choice (log 48). -/
def Obligations.AnnounceSlotEndPlacesTheSerial : Prop :=
  ∀ (s : State) (u : Turn) (e : Entry), s.Settled → s.line.turn = some u → u.phase = .announceSlot →
    s.entry? u.entry = some e →
    let next := s.timeBase + if s.line.state = .sweeping ∨ s.devs.sweepEnd ≠ none then 200 else 5000
    let windowed : DeviceManager := { s.devs with nextWindow := some next, lastWindowAt := some s.timeBase }
    (∀ w, u.waitEnd = some w → w ≤ s.timeBase → u.replyLimit = none →
      ∃ t, exec (.announceSlotEnd .empty) s = .next t ∧ t.devs = { windowed with floor := 0#32 }) ∧
    (∃ t, exec (.announceSlotEnd .failed) s = .next t ∧ t.devs = windowed) ∧
    (∀ n, n ≠ 0#32 →
      let lowest (a : Nat) : Prop :=
        let taken (b : Nat) : Prop :=
          b ∈ s.devs.releasing ∨ ∃ d, some d ∈ s.devs.table ∧ d.serial ≠ n ∧ d.shortAddr = some b
        1 ≤ a ∧ a ≤ 62 ∧ ¬ taken a ∧ ∀ b, 1 ≤ b → b < a → taken b
      ∃ t, exec (.announceSlotEnd (.serial n)) s = .next t ∧ t.devs.floor = n ∧ t.devs.nextWindow = some next ∧
        (∀ d, s.device? n = some d → d.duplicate = true ∨ d.kindMismatch = true ∨ d.state = .placing →
          t.devs = { windowed with floor := n }) ∧
        (∀ d a, s.device? n = some d → d.duplicate = false → d.kindMismatch = false → d.state ≠ .placing →
          (d.state = .unplaced → ∀ x, some x ∈ s.devs.table → x.serial = n → x.shortAddr = none) → lowest a →
          t.device? n = some { d with state := .placing, shortAddr := some a } ∧
          (d.state = .unplaced → s.sched.waits = [] → u.entry < 12 →
            t.HasAsked .discovery .assign 63 (some a) (u32 n ++ [u8 a]))) ∧
        (∀ a, s.device? n = none → none ∈ s.devs.table → lowest a →
          t.devs.created = min 4294967295 (s.devs.created + 1) ∧
          t.device? n = some { serial := n, kind := .unknown, model := none, count := none, shortAddr := some a,
                               state := .placing, enrolled := false, duplicate := false, kindMismatch := false,
                               missCount := 0, pollInterval := 15, createdSeq := s.devs.created }) ∧
        (s.device? n = none →
          (∀ o ∈ s.devs.table, ∃ d, o = some d ∧ (d.enrolled = true ∨ d.state = .placing ∨ d.state = .identifying)) →
          t.devs = { windowed with floor := n, overflowReported := true } ∧
          (s.devs.overflowReported = false → t.link = s.link.post (.deviceEvent .overflow n none none none none none)) ∧
          (s.devs.overflowReported = true → t.link = s.link)))

/-- What the answers of a placement do: ASSIGN OK makes the record IDENTIFYING and asks for its identity; a valid
identity that agrees with the maps is recorded, and the record is READY or, for an enrolled probe, has its calibration
asked for; one that does not agree sets kind_mismatch; the calibration of an enrolled probe updates its channel records,
makes those it has none of, and makes it READY with a poll; a probe that finds no free channel record is reported PARTIAL
before PLACED; any other answer makes the record UNPLACED, and its address waits for its release (R115, R121, R130, R135
to R137). So does a transaction that fails with no answer; an ASSIGN of which every one of the three attempts ended in a
reply that failed its check sets duplicate besides, and DUPLICATE is posted (R135); that this notice carries the serial
alone is the model's reading (log 36), and that payload bytes beyond the layout are ignored its choice (log 62). -/
def Obligations.PlacementFollowsItsAnswers : Prop :=
  (∀ (s : State) (i : Nat) (e : Entry) (d : Device) (address : BitVec 6) (tag status : Byte) (payload : List Byte)
      (a : Nat),
    s.Settled → s.line.state.powered = true → s.Accepts i e address tag → e.origin = .discovery → e.detached = false →
    e.releaseAddr = none → s.device? e.subject = some d → d.shortAddr = some a → payload.length ≤ 12 →
    let run := exec (.fieldReplyReceived address tag status payload) s
    let number (k : Nat) : Nat := (payload.getD k 0#8).toNat
    let free := s.sched.waits = [] ∧ i < 12
    let unplaced (t : State) (r : Device) : Prop :=
      t.device? e.subject = some { r with state := .unplaced, shortAddr := none } ∧ a ∈ t.devs.releasing
    (e.asked = .assign → d.state = .placing → status = 0#8 →
      ∃ t, run = .next t ∧ t.device? e.subject = some { d with state := .identifying } ∧
        (free → t.HasAsked .discovery .identify a (some a) [])) ∧
    (e.asked = .identify → d.state = .identifying → status = 0#8 → 3 ≤ payload.length →
      let kind : DeviceKind := if number 0 = 1 then .decoder else if number 0 = 2 then .probe else .unknown
      let count := number 2
      let valid := (kind = .decoder ∧ 1 ≤ count ∧ count ≤ 4) ∨ (kind = .probe ∧ 1 ≤ count ∧ count ≤ 3)
      let clash := ∃ r ∈ s.zones, (∃ ref ∈ r.outputs, ref.serial = e.subject ∧ (kind ≠ .decoder ∨ count < ref.num)) ∨
        ∃ ref ∈ r.channels, ref.serial = e.subject ∧ (kind ≠ .probe ∨ count < ref.num)
      let known : Device := { d with kind := kind, model := some (number 1), count := some count }
      (¬ valid → ∃ t, run = .next t ∧ unplaced t d) ∧
      (valid → clash → ∃ t, run = .next t ∧ unplaced t { d with kindMismatch := true }) ∧
      (valid → ¬ clash → ¬ (d.enrolled = true ∧ kind = .probe) →
        ∃ t, run = .next t ∧ t.device? e.subject = some { known with state := .ready, missCount := 0 }) ∧
      (valid → ¬ clash → d.enrolled = true → kind = .probe →
        ∃ t, run = .next t ∧ t.device? e.subject = some known ∧
          (free → t.HasAsked .discovery .readCal a (some a) []))) ∧
    (e.asked = .readCal → d.state = .identifying → status = 0#8 →
      ∃ t, run = .next t ∧ t.device? e.subject = some { d with state := .ready, missCount := 0 } ∧
        (∀ ch count, d.enrolled = true → d.kind = .probe → d.count = some count → 1 ≤ ch → ch ≤ count → ch ≤ 3 →
          4 * ch ≤ payload.length →
          let dry := number (4 * (ch - 1)) * 256 + number (4 * (ch - 1) + 1)
          let wet := number (4 * (ch - 1) + 2) * 256 + number (4 * (ch - 1) + 3)
          (∀ c, s.channel? e.subject ch = some c →
            t.channel? e.subject ch = some { c with dry := dry, wet := wet }) ∧
          (s.channel? e.subject ch = none → count ≤ s.poller.channels.countP (·.isNone) →
            t.channel? e.subject ch =
              some { serial := e.subject, channel := ch, dry := dry, wet := wet, lastRaw := none, lastWetness := none,
                     readingAt := none, quality := .none, fresh := false, staleAt := none })) ∧
        (∀ count, d.enrolled = true → d.kind = .probe → d.count = some count → 1 ≤ count → count ≤ 3 →
          none ∉ s.poller.channels → (∀ ch, s.channel? e.subject ch = none) → s.arb.runs = [] →
          t.poller.channels = s.poller.channels ∧
          t.link = (s.link.post (.deviceEvent .partialProbe e.subject none (some count) none none (some 0))).post
            (.deviceEvent .placed e.subject (some .probe) (some count) (some a) (some true) none)) ∧
        (¬ (d.enrolled = true ∧ d.kind = .probe) → t.poller.channels = s.poller.channels) ∧
        (d.enrolled = true → d.kind = .probe → s.poll? e.subject = none →
          t.poll? e.subject = some { serial := e.subject, state := .waiting, nextPoll := some s.clock.uptime,
                                     dueSince := none, entry := none })) ∧
    (status ≠ 0#8 → status ≠ 1#8 →
      (e.asked = .assign ∧ d.state = .placing) ∨
        ((e.asked = .identify ∨ e.asked = .readCal) ∧ d.state = .identifying) →
      ∃ t, run = .next t ∧ unplaced t d)) ∧
  (∀ (s : State) (u : Turn) (e : Entry) (c : Instr) (checks : Nat) (d : Device) (a : Nat), s.Settled →
    s.FailsTurn u e c checks → e.origin = .discovery → e.detached = false → e.releaseAddr = none →
    s.device? e.subject = some d → d.shortAddr = some a →
    (e.asked = .assign ∧ d.state = .placing) ∨
      ((e.asked = .identify ∨ e.asked = .readCal) ∧ d.state = .identifying) →
    let twice := e.asked = .assign ∧ checks = 3
    ∃ t, exec c s = .next t ∧ a ∈ t.devs.releasing ∧
      t.device? e.subject =
        some { d with state := .unplaced, shortAddr := none, duplicate := d.duplicate || decide twice } ∧
      t.link = if twice then s.link.post (.deviceEvent .duplicate e.subject none none none none none) else s.link)

/-- PROBE_READ and DEVICE_QUERY: the owner's tests in their order, then the tests of the Pending Slots, and else no
reply yet: the lowest FREE slot is WAITING under the request's tag, and a transaction of origin LINK carries its number,
on the table or on the wait list (R125, R143, R146, R147, R157, R176). Their answers, told with room in the reply queue:
PROBE_READ is answered with the raw count of its channel and the wetness and quality the record then holds (R126); a
DEVICE_QUERY of a decoder with its identity, and one of a probe reads its calibration first and is answered with both; an
identity that the maps agree with is recorded, and the calibration is given to an enrolled probe, which has a poll from
then on (R144, R121); a fault of the device is answered DEVICE_ERROR (R157). The model's: an identity that is not valid is
answered with kind UNKNOWN (log 15), the calibration is taken for the channels of the record (log 32), bits 14 to 12 of a
MEASURE word (log 58) and payload bytes beyond the layout (log 62) are ignored, and a DEVICE_QUERY whose record has left
READY records, and reads a calibration, as for one that is READY (log 63). -/
def Obligations.ForwardedRequestsTakeASlot : Prop :=
  (∀ (b0 b1 b2 b3 ch tag : Byte) (s : State), s.Settled →
    let n : Serial := b0 ++ b1 ++ b2 ++ b3
    let down := s.line.state ≠ .on ∧ s.line.state ≠ .quiet
    let tagFree := ∀ x ∈ s.link.slots, x.state ≠ .free → x.tag ≠ tag
    let forwards (c : Instr) (code : Byte) (kind : ForwardKind) (channel : Nat) (op : FieldOp) (a : Nat) : Prop :=
      (¬ tagFree → RefusedWith c code tag .tagInUse s) ∧
      (tagFree → (∀ x ∈ s.link.slots, x.state ≠ .free) → RefusedWith c code tag .busy s) ∧
      (∀ k x, tagFree → s.link.slots[k]? = some x → x.state = .free →
        (∀ j y, j < k → s.link.slots[j]? = some y → y.state ≠ .free) →
        ∃ t, exec c s = .next t ∧
          t.link = { s.link with slots := s.link.slots.set k { state := .waiting, kind := kind, tag := tag, reply := none,
                                                               channel := channel, found := none } } ∧
          (s.HasRoom → t.HasAsked .link op a (some a) [] ∧
            ∃ e ∈ t.sched.entries, e.origin = .link ∧ e.slot = some k ∧ e.op = op ∧ e.subject = n) ∧
          (¬ s.HasRoom → ∃ w, t.sched.waits = s.sched.waits ++ [w] ∧ w.req.origin = .link ∧ w.req.slot = some k ∧
            w.req.op = op ∧ w.req.address = a))
    let read := Instr.probeRead tag [b0, b1, b2, b3, ch]
    let query := Instr.deviceQuery tag [b0, b1, b2, b3]
    let channelOk := 1 ≤ ch.toNat ∧ ch.toNat ≤ 3
    (s.Takes [b0, b1, b2, b3, ch] →
      (¬ channelOk → RefusedWith read 0x1B#8 tag .badField s) ∧
      (channelOk → s.device? n = none → RefusedWith read 0x1B#8 tag .noDevice s) ∧
      (∀ d, channelOk → s.device? n = some d →
        (¬ (d.kind = .probe ∧ d.enrolled = true) → RefusedWith read 0x1B#8 tag .notEnrolled s) ∧
        (d.kind = .probe → d.enrolled = true →
          (d.state ≠ .ready → down → RefusedWith read 0x1B#8 tag .lineDown s) ∧
          (d.state ≠ .ready → ¬ down → RefusedWith read 0x1B#8 tag .conflict s) ∧
          (∀ count, d.state = .ready → d.count = some count → count < ch.toNat →
            RefusedWith read 0x1B#8 tag .badField s) ∧
          (∀ count a, d.state = .ready → d.count = some count → ch.toNat ≤ count → d.shortAddr = some a →
            forwards read 0x1B#8 .probeRead ch.toNat .measure a)))) ∧
    (s.Takes [b0, b1, b2, b3] →
      (s.device? n = none → RefusedWith query 0x1C#8 tag .noDevice s) ∧
      (∀ d, s.device? n = some d →
        (d.state ≠ .ready → down → RefusedWith query 0x1C#8 tag .lineDown s) ∧
        (d.state ≠ .ready → ¬ down → RefusedWith query 0x1C#8 tag .conflict s) ∧
        (∀ a, d.state = .ready → d.shortAddr = some a → forwards query 0x1C#8 .deviceQuery 0 .identify a)))) ∧
  (∀ (s : State) (i k : Nat) (e : Entry) (x : Slot) (address : BitVec 6) (tag status : Byte) (payload : List Byte),
    s.Settled → s.line.state.powered = true → s.Accepts i e address tag → e.detached = false → e.origin = .link →
    e.slot = some k → s.link.slots[k]? = some x → x.state = .waiting → s.link.replies.length < 4 →
    s.link.completeOrder = [] → payload.length ≤ 12 →
    let run := exec (.fieldReplyReceived address tag status payload) s
    let byte (j : Nat) : Byte := payload.getD j 0#8
    let answered (result : List Byte) (t : State) : Prop :=
      t.Answered { kind := if x.kind = .probeRead then 0x9B#8 else 0x9C#8, tag := x.tag, payload := result,
                   resets := false } ∧
      t.link.slots = s.link.slots.set k Slot.blank
    (2 ≤ status.toNat → status.toNat ≤ 5 → ∃ t, run = .next t ∧ answered [0x0C#8, status] t) ∧
    (∀ c d, x.kind = .probeRead → status = 0#8 → 1 ≤ x.channel → x.channel ≤ 3 → 2 * x.channel ≤ payload.length →
      s.channel? e.subject x.channel = some c → s.device? e.subject = some d →
      let r := Channel.measure s.clock.uptime d.pollInterval payload c
      let raw := ((byte (2 * (x.channel - 1))).toNat * 256 + (byte (2 * (x.channel - 1) + 1)).toNat) % 4096
      ∃ t, run = .next t ∧ t.channel? e.subject x.channel = some r ∧
        answered ([0#8] ++ u16 raw ++ opt16 r.lastWetness ++ [u8 r.quality.code]) t) ∧
    (x.kind = .deviceQuery → e.asked = .identify → status = 0#8 → 3 ≤ payload.length →
      let kind : DeviceKind := if byte 0 = 1#8 then .decoder else if byte 0 = 2#8 then .probe else .unknown
      let count := (byte 2).toNat
      let valid := (kind = .decoder ∧ 1 ≤ count ∧ count ≤ 4) ∨ (kind = .probe ∧ 1 ≤ count ∧ count ≤ 3)
      let clash := ∃ r ∈ s.zones, (∃ ref ∈ r.outputs, ref.serial = e.subject ∧ (kind ≠ .decoder ∨ count < ref.num)) ∨
        ∃ ref ∈ r.channels, ref.serial = e.subject ∧ (kind ≠ .probe ∨ count < ref.num)
      let recorded (t : State) : Prop := ∀ d, s.device? e.subject = some d →
        t.device? e.subject = some (if clash then d else { d with kind := kind, model := some (byte 1).toNat,
                                                                  count := some count })
      (¬ valid → ∃ t, run = .next t ∧ answered [0#8, 2#8, byte 1, byte 2] t ∧ t.devs = s.devs) ∧
      (valid → kind = .decoder → e.silent = false →
        ∃ t, run = .next t ∧ answered [0#8, 0#8, byte 1, byte 2] t ∧ recorded t) ∧
      (valid → kind = .probe → e.silent = false →
        ∃ t, run = .next t ∧ recorded t ∧
          t.link.slots = s.link.slots.set k
            { x with found := some { kind := .probe, model := (byte 1).toNat, count := count } } ∧
          (t.HasAsked .link .readCal e.address (some e.address) [] ∨
            ∃ w ∈ t.sched.waits, w.req.origin = .link ∧ w.req.slot = some k ∧ w.req.op = .readCal ∧
              w.req.address = e.address))) ∧
    (∀ found, x.kind = .deviceQuery → e.asked = .readCal → status = 0#8 → x.found = some found → found.kind = .probe →
      4 * found.count ≤ payload.length →
      ∃ t, run = .next t ∧
        answered ([0#8, 1#8, u8 found.model, u8 found.count] ++ payload.take (4 * found.count)) t ∧
        (∀ d count ch c, e.silent = false → s.device? e.subject = some d → d.enrolled = true → d.kind = .probe →
          d.count = some count → 1 ≤ ch → ch ≤ found.count → ch ≤ count → s.channel? e.subject ch = some c →
          t.channel? e.subject ch =
            some { c with dry := (byte (4 * (ch - 1))).toNat * 256 + (byte (4 * (ch - 1) + 1)).toNat,
                          wet := (byte (4 * (ch - 1) + 2)).toNat * 256 + (byte (4 * (ch - 1) + 3)).toNat } ∧
          (d.state = .ready → s.poll? e.subject = none →
            t.poll? e.subject = some { serial := e.subject, state := .waiting, nextPoll := some s.clock.uptime,
                                       dueSince := none, entry := none }))))

/-! ## Field transactions (chapter 9) -/

/-- The stop condition of our frame: the guard starts, and the spacing timer for an actuation; an INVITE opens the
announce slot and a command to a device the 30 ms wait; an ALL_CLOSE and a release ASSIGN are complete, which frees the
entry and the address; with no request waiting nothing else of the actuation records changes (R51, R77, R130, R147, R149,
R155, R169). A reply that begins within our turn starts the 20 ms limit (R149), and so does a frame in the announce slot,
as the opcode table's row has it (log 48). A stop condition with no frame of ours being sent, and a reply's start while one
is sent or the limit runs already, change nothing (the model's choice, log 11). -/
def Obligations.FrameSentStartsTheWait : Prop :=
  ∀ (s : State) (u : Turn) (e : Entry), s.Settled → s.line.turn = some u → s.entry? u.entry = some e →
    let spacing := if e.op = .opn ∨ e.op = .close ∨ e.op = .allClose then some (s.timeBase + 400) else s.seqr.spacingEnd
    let waiting (phase : TurnPhase) : State :=
      { s with sched := { s.sched with entries := s.sched.entries.set u.entry { e with sentOnce := true } },
               seqr := { s.seqr with spacingEnd := spacing },
               line := { s.line with guardEnd := some (s.timeBase + 6),
                                     turn := some { u with phase := phase, waitEnd := some (s.timeBase + 30) } } }
    (u.phase = .sending → e.op = .invite → exec .fieldFrameSent s = .next (waiting .announceSlot)) ∧
    (u.phase = .sending → e.op ≠ .invite → e.op ≠ .allClose → e.replyAddr ≠ none →
      exec .fieldFrameSent s = .next (waiting .awaiting)) ∧
    (u.phase = .sending → e.op = .allClose → e.asked = .allClose → e.origin = .valve →
      ∃ t, exec .fieldFrameSent s = .next t ∧ t.line.turn = none ∧ t.line.guardEnd = some (s.timeBase + 6) ∧
        t.seqr.spacingEnd = some (s.timeBase + 400) ∧ t.supply.windowDiscard = true ∧
        (s.sched.waits = [] → ∃ y, t.entry? u.entry = some y ∧ y.state = .free ∧ y.gen = e.gen)) ∧
    (∀ a, u.phase = .sending → e.op = .assign → e.asked = .assign → e.origin = .discovery → e.replyAddr = none →
      e.releaseAddr = some a → e.detached = false →
      ∃ t, exec .fieldFrameSent s = .next t ∧ t.line.turn = none ∧ t.line.guardEnd = some (s.timeBase + 6) ∧
        t.seqr.spacingEnd = s.seqr.spacingEnd ∧ t.devs = { s.devs with releasing := s.devs.releasing.erase a } ∧
        (s.sched.waits = [] →
          t.seqr = s.seqr ∧ ∃ y, t.entry? u.entry = some y ∧ y.state = .free ∧ y.gen = e.gen)) ∧
    (u.phase ≠ .sending → exec .fieldFrameSent s = .next s) ∧
    (u.phase ≠ .sending → u.replyLimit = none →
      exec .replyStartCondition s =
        .next { s with line := { s.line with turn := some { u with replyLimit := some (s.timeBase + 20) } } }) ∧
    (u.phase = .sending ∨ u.replyLimit ≠ none → exec .replyStartCondition s = .next s)

/-- A frame that the part did not send, by the bytes between its start and its stop condition, is checked and handed on by
its type: a REPLY is matched, an ANNOUNCE is the result of our announce slot, and one that fails its check ends our attempt
or is discarded; a reply given by its fields fails with more than 12 payload bytes (R131, R167, R168; that one row carries
every such frame is log 56's). A reply that no entry accepts is a stray, which is counted and ends no turn, on an unpowered
line too (R150, R158); an accepted HOLD makes its entry HOLDING for the wait, or fails a transaction of the host with
TIMEOUT when the holds pass 10 s; at the end of a hold the entry is queued again with COLLECT. The waits given are those of a two-byte payload (R150,
R152, R157). The model's: a reply whose tag has one of its upper three bits set is a stray (log 33), a stray within our
turn lets the wait go on (log 28), one on an unpowered line changes the count alone (log 47), a late HOLD makes its entry
HOLDING also beside a SENT entry to the same address (log 54), bytes of an ANNOUNCE after its serial are ignored (log 62),
and the guards (log 2). -/
def Obligations.RepliesAreMatchedAndHeld : Prop :=
  (∀ (s : State) (address : BitVec 6) (tag code : Byte) (payload bytes : List Byte),
    (FieldBytes 1 address tag code payload bytes →
      exec (.foreignFrameStop bytes) s = exec (.fieldReplyReceived address tag code payload) s) ∧
    (∀ u b0 b1 b2 b3 rest, FieldBytes 3 address tag code payload bytes → s.line.state.powered = true →
      s.line.turn = some u → u.phase = .announceSlot → payload = b0 :: b1 :: b2 :: b3 :: rest →
      exec (.foreignFrameStop bytes) s = exec (.announceSlotEnd (.serial (b0 ++ b1 ++ b2 ++ b3))) s) ∧
    (FieldFails bytes → exec (.foreignFrameStop bytes) s = exec .fieldBadFrame s) ∧
    (12 < payload.length → exec (.fieldReplyReceived address tag code payload) s = exec .fieldBadFrame s)) ∧
  (∀ (s : State) (address : BitVec 6) (tag status : Byte) (payload : List Byte), payload.length ≤ 12 →
    let run := exec (.fieldReplyReceived address tag status payload) s
    (s.line.state = .off ∨ s.line.state = .fault →
      run = .next { s with sched := { s.sched with strays := min 65535 (s.sched.strays + 1) } }) ∧
    (s.Settled → s.line.state ≠ .off → s.line.state ≠ .fault → (∀ i e, ¬ s.Accepts i e address tag) →
      ∃ reservation, run = .next
        { s with sched := { s.sched with strays := min 65535 (s.sched.strays + 1) },
                 line := { s.line with foreignBusy := false, foreignLimit := none, guardEnd := some (s.timeBase + 6),
                                       reservation := reservation,
                                       turn := s.line.turn.map fun u => { u with replyLimit := none } } })) ∧
  (∀ (s : State) (i : Nat) (e : Entry) (address : BitVec 6) (tag b0 b1 : Byte), s.Settled →
    s.line.state.powered = true → s.Accepts i e address tag →
    let run := exec (.fieldReplyReceived address tag 1#8 [b0, b1]) s
    let asked := b0.toNat * 256 + b1.toNat
    let wait := if asked < 50 then 50 else if 3000 < asked then 3000 else asked
    (e.holdTotal + wait ≤ 10000 →
      ∃ t, run = .next t ∧ t = { s with sched := t.sched, line := t.line } ∧
        t.sched = { s.sched with
          entries := s.sched.entries.set i { e with state := .holding, holdUntil := some (s.timeBase + wait),
                                                    holdTotal := e.holdTotal + wait } } ∧
        ∀ u, s.line.turn = some u → u.entry = i → t.line.turn = none) ∧
    (∀ k x f, 10000 < e.holdTotal + wait → e.origin = .link → e.detached = false → e.slot = some k →
      s.link.slots[k]? = some x → x.state = .waiting → s.link.tx = some f → s.link.replies.length < 4 →
      s.link.completeOrder = [] →
      ∃ t, run = .next t ∧
        t.link.replies = s.link.replies ++
          [{ kind := x.kind.replyKind, tag := x.tag, payload := [0x0A#8], resets := false }] ∧
        t.link.slots = s.link.slots.set k Slot.blank)) ∧
  (∀ (s : State) (i : Nat) (e : Entry), s.Settled → s.entry? i = some e →
    (∀ w, e.state = .holding → e.holdUntil = some w → w ≤ s.timeBase →
      ∃ t st, exec (.holdExpiry i) s = .next t ∧ t = { s with sched := t.sched, line := t.line } ∧
        (st = .queued ∨ st = .sent) ∧
        t.entry? i = some { e with state := st, op := .collect, payload := [], holdUntil := none, sentOnce := false,
                                   attempts := 0, badChecks := 0 }) ∧
    (e.state ≠ .holding ∨ (∀ w, e.holdUntil = some w → s.timeBase < w) → exec (.holdExpiry i) s = .next s))

/-- What an answer to an actuation does, told of the only run in the queue: the OK of the last OPEN starts the cycle,
with its length, its count and the zone ACTIVE; a coil status on the first OPEN faults the zone; the OK of the last
CLOSE gives back the budget, ends the supply's ON and takes the run to the destination it holds; another answer to a
CLOSE is a close failure (R17, R28, R32, R54, R55, R57, R58, R60, R61, R63, R65, R66, R72). An OPEN that fails with no
answer leaves its output UNKNOWN until its CLOSE is handed out, and the run closes with FAULT and NO_RESPONSE offered; a
CLOSE that does is a close failure; both are misses of the decoder, and the third in a row loses it: UNPLACED, its address
waiting for its release, and the zones it waters faulted (R20, R52, R64, R65, R140). That the payload of an answer, which
has none in its layout, is ignored is the model's choice (log 62). -/
def Obligations.ActuationAnswersMoveTheRun : Prop :=
  (∀ (s : State) (i : Nat) (e : Entry) (q : Run) (x : ActRecord) (r : Zone) (before after : List OutEntry) (o : OutEntry)
      (address : BitVec 6) (tag status : Byte) (payload : List Byte),
    s.Settled → s.line.state.powered = true → s.Accepts i e address tag → e.origin = .valve → e.detached = false →
    s.arb.runs = [q] → q.zone = e.zone → s.zone? e.zone = some r → s.seqr.records = [x] → x.zone = e.zone →
    x.inFlight = some (i, e.gen) → x.outputs = before ++ o :: after → (∀ p ∈ before ++ after, p.ref ≠ o.ref) →
    s.sched.waits = [] → payload.length ≤ 12 →
    let run := exec (.fieldReplyReceived address tag status payload) s
    let length := if q.split = true ∧ 0 < r.cfg.cycleMaxS then min q.remainingS r.cfg.cycleMaxS else q.remainingS
    (e.asked = .opn → status = 0#8 → o.status = .openSent → q.state = .opening → q.closePending = false →
      after = [] → (∀ p ∈ before, p.status = .opened) →
      ∃ t r', run = .next t ∧
        t.arb = { s.arb with
          runs := [{ q with state := .opened, opened := true, cyclesDone := min 255 (q.cyclesDone + 1),
                            cycleS := some length }],
          openOrder := s.arb.openOrder ++ [q.zone] } ∧
        t.seqr.records = [{ x with outputs := before ++ [{ o with status := .opened }], inFlight := none,
                                   cycleStart := some s.clock.uptime, cycleEnd := some (s.clock.uptime + length) }] ∧
        t.zone? e.zone = some r' ∧ r'.state = .active ∧
        r'.runsToday = (if q.opened = false ∧ q.origin ≠ .manual then min 8 (r.runsToday + 1) else r.runsToday) ∧
        t.supply.lowAlarmed = false ∧ t.supply.windowDiscard = true) ∧
    (e.asked = .opn → status = 3#8 ∨ status = 4#8 → o.status = .openSent → q.state = .opening → before = [] →
      (∀ p ∈ after, p.status = .notSent) → q.destination = none →
      ∃ t r', run = .next t ∧ t.arb.runs = [] ∧ t.seqr.records = [] ∧ t.zone? e.zone = some r' ∧ r'.state = .faulted ∧
        r'.faultReason = some (if status = 3#8 then .coilOpen else .coilShort)) ∧
    (e.asked = .close → status = 0#8 → o.status = .closeSent → q.state = .closing →
      (∀ p ∈ before ++ after, p.status = .notSent ∨ p.status = .closed) →
      s.clock.uptime < q.enqueuedAt + 86400 →
      (q.destination = some .soaking →
        ∃ t q', run = .next t ∧ t.arb.runs = [q'] ∧ q'.zone = q.zone ∧ q'.state = .soaking ∧
          q'.soakEnd = some (s.clock.uptime + r.cfg.soakS) ∧ q'.remainingS = q.remainingS ∧ q'.destination = none ∧
          q'.cycleS = none ∧ t.arb.flowSum = s.arb.flowSum - r.cfg.nominalFlow ∧
          t.arb.openCount = s.arb.openCount - 1 ∧ t.seqr.records = [] ∧
          (s.arb.openCount = 1 → s.supply.state = .on → 0 < s.supply.lagS →
            t.supply.state = .lag ∧ t.supply.timerEnd = some (s.clock.uptime + s.supply.lagS)) ∧
          (s.arb.openCount = 1 → s.supply.state = .on → s.supply.lagS = 0 →
            t.supply.state = .idle ∧ t.supply.timerEnd = none)) ∧
      (q.destination = some .complete → 0 < r.cfg.settleMin → r.state = .active →
        ∃ t r', run = .next t ∧ t.arb.runs = [] ∧ t.seqr.records = [] ∧
          t.arb.flowSum = s.arb.flowSum - r.cfg.nominalFlow ∧ t.arb.openCount = s.arb.openCount - 1 ∧
          t.zone? e.zone = some r' ∧ r'.state = .settling ∧ r'.daysSinceRun = 0 ∧
          r'.settleEnd = some (s.clock.uptime + r.cfg.settleMin * 60))) ∧
    (e.asked = .close → status ≠ 0#8 → status ≠ 1#8 → o.status = .closeSent → q.state = .closing →
      ∃ t r', run = .next t ∧ t.arb.runs = [] ∧ t.zone? e.zone = some r' ∧ r'.state = .faulted ∧
        r'.faultReason = some .stuck ∧ t.supply.state = .tripped)) ∧
  (∀ (s : State) (u : Turn) (e : Entry) (c : Instr) (checks : Nat) (q : Run) (x : ActRecord) (r : Zone) (d : Device)
      (before after : List OutEntry) (o : OutEntry),
    s.Settled → s.sched.waits = [] → s.FailsTurn u e c checks → e.origin = .valve → e.detached = false →
    s.arb.runs = [q] → q.zone = e.zone → s.zone? e.zone = some r → s.seqr.records = [x] → x.zone = e.zone →
    x.inFlight = some (u.entry, e.gen) → x.outputs = before ++ o :: after → (∀ p ∈ before ++ after, p.ref ≠ o.ref) →
    s.device? e.subject = some d → d.state = .ready →
    let missed (t : State) : Prop :=
      (d.missCount < 2 → t.device? e.subject = some { d with missCount := d.missCount + 1 }) ∧
      (2 ≤ d.missCount →
        t.device? e.subject = some { d with state := .unplaced, shortAddr := none, missCount := 0 } ∧
        (∀ a, d.shortAddr = some a → a ∈ t.devs.releasing) ∧ s.ZonesLose e.subject t)
    (e.asked = .opn → o.status = .openSent → q.state = .opening → (∀ p ∈ before, p.status = .opened) →
      (∀ p ∈ after, p.status = .notSent) →
      ∃ t, exec c s = .next t ∧ missed t ∧
        (d.missCount < 2 →
          t.run? e.zone = some { q with state := .closing, closePending := false,
                                        destination := Dest.offer q.destination (.fault .noResponse) } ∧
          ∃ x' o', t.record? e.zone = some x' ∧ x'.closeLimitAt = some (s.timeBase + 20000) ∧ o' ∈ x'.outputs ∧
            o'.ref = o.ref ∧ (o'.status = .unknown ∨ o'.status = .closeSent) ∧
            (before ≠ [] → o'.status = .unknown))) ∧
    (e.asked = .close → o.status = .closeSent → q.state = .closing →
      (∀ p ∈ before ++ after, p.status ≠ .openSent ∧ p.status ≠ .closeSent) →
      ∃ t r', exec c s = .next t ∧ missed t ∧ t.arb.runs = [] ∧ t.zone? e.zone = some r' ∧ r'.state = .faulted ∧
        r'.faultReason = some .stuck ∧ t.supply.state = .tripped))

/-- An attempt that ends without an answer, by the 30 ms, by the 20 ms or by a frame that fails its check, is counted
and the entry is queued again, until the third or the first with no_retry fails the transaction; a lost arbitration is
counted in place of an attempt and sets foreign_busy, until the eighth fails it with CONTENTION. In the announce slot a
failed frame is the window's result. A failure is told of a transaction of the host, whose reply carries it, and of a poll,
where it is a miss of the probe, and the third in a row loses the device: it is UNPLACED, its address waits for its release,
its poll goes, LOST is posted, and the zones it waters are faulted (R20, R131, R140, R149, R153, R154, R157, R168, R170; the
guards are log 2's). That the 20 ms limit ends an announce slot as a failed window is the model's choice (log 48). -/
def Obligations.AttemptsAreRetriedAndFail : Prop :=
  ∀ (s : State) (u : Turn) (e : Entry), s.Settled → s.line.turn = some u → s.entry? u.entry = some e →
    let next := s.timeBase + if s.line.state = .sweeping ∨ s.devs.sweepEnd ≠ none then 200 else 5000
    let windowed : DeviceManager := { s.devs with nextWindow := some next, lastWindowAt := some s.timeBase }
    let replies (status : Byte) (t : State) : Prop :=
      ∀ k x f, e.origin = .link → e.detached = false → e.slot = some k → s.link.slots[k]? = some x →
        x.state = .waiting → s.link.tx = some f → s.link.replies.length < 4 → s.link.completeOrder = [] →
        t.link.replies = s.link.replies ++
          [{ kind := x.kind.replyKind, tag := x.tag, payload := [status], resets := false }]
    let missed (t : State) : Prop :=
      ∀ r d, e.origin = .poll → e.detached = false → s.poll? e.subject = some r → r.state = .inFlight →
        r.entry = some (u.entry, e.gen) → (∀ w ∈ s.sched.waits, w.req.subject ≠ e.subject) →
        s.device? e.subject = some d → d.state = .ready →
        (d.missCount < 2 → t.device? e.subject = some { d with missCount := d.missCount + 1 } ∧
          t.poll? e.subject = some { r with state := .waiting, nextPoll := some (s.clock.uptime + d.pollInterval * 60),
                                            dueSince := none, entry := none }) ∧
        (2 ≤ d.missCount →
          t.device? e.subject = some { d with state := .unplaced, shortAddr := none, missCount := 0 } ∧
          (∀ a, d.shortAddr = some a → a ∈ t.devs.releasing) ∧ t.poll? e.subject = none ∧ s.ZonesLose e.subject t ∧
          (s.arb.runs = [] → (∀ z ∈ s.zones, ∀ ref ∈ z.outputs, ref.serial ≠ e.subject) →
            t.link = s.link.post (.deviceEvent .lost e.subject (some d.kind) none none none none)))
    let attempted (checks : Nat) (c : Instr) : Prop :=
      ∃ t, exec c s = .next t ∧
        (e.noRetry = false → e.attempts < 2 → t = { s with sched := t.sched, line := t.line } ∧
          ∃ st, (st = .queued ∨ st = .sent) ∧
            t.entry? u.entry = some { e with state := st, attempts := e.attempts + 1, badChecks := checks }) ∧
        (e.noRetry = true ∨ 2 ≤ e.attempts → replies 0x0A#8 t ∧ missed t)
    (∀ w, u.phase = .awaiting → u.replyLimit = none → u.waitEnd = some w → w ≤ s.timeBase →
      attempted e.badChecks .turnTimeout) ∧
    (u.phase ≠ .awaiting ∨ u.replyLimit ≠ none ∨ (∀ w, u.waitEnd = some w → s.timeBase < w) →
      exec .turnTimeout s = .next s) ∧
    (∀ w, u.replyLimit = some w → w ≤ s.timeBase →
      (u.phase = .awaiting → attempted (e.badChecks + 1) .replyTooLong) ∧
      (u.phase = .announceSlot → ∃ t, exec .replyTooLong s = .next t ∧ t.devs = windowed)) ∧
    ((∀ w, u.replyLimit = some w → s.timeBase < w) → exec .replyTooLong s = .next s) ∧
    (s.line.state.powered = true →
      (u.phase = .awaiting → attempted (e.badChecks + 1) .fieldBadFrame) ∧
      (u.phase = .announceSlot → ∃ t, exec .fieldBadFrame s = .next t ∧ t.devs = windowed)) ∧
    (u.phase = .sending →
      ∃ t, exec .arbitrationLost s = .next t ∧ t.line.turn = none ∧ t.line.foreignBusy = true ∧
        t.line.foreignLimit = some (u.startedAt + 20) ∧ t.seqr.spacingEnd = s.seqr.spacingEnd ∧
        (e.noRetry = false → e.arbLosses < 7 →
          t.entry? u.entry = some { e with state := .queued, arbLosses := e.arbLosses + 1 } ∧ t.devs = s.devs) ∧
        (e.noRetry = true ∨ 7 ≤ e.arbLosses →
          replies 0x0B#8 t ∧ missed t ∧
          (e.origin = .discovery → e.asked = .invite → e.detached = false → t.devs = windowed))) ∧
    (u.phase ≠ .sending → exec .arbitrationLost s = .next s)

/-- The choice of R148, made when the guard or the spacing timer ends: among the QUEUED entries that the line state
admits, whose device no running entry keeps busy, and that are no actuation while the spacing runs, the lowest class,
the oldest queued_at and the lowest index starts its frame; while foreign traffic is on the line it is held as the
reservation; with no such entry nothing starts (R51, R148, R149, R169; the guards are log 2's). -/
def Obligations.TheFirstFrameInRankStarts : Prop :=
  ∀ s : State, s.Settled → s.line.turn = none →
    let rank (e : Entry) : Nat :=
      if e.op = .allClose ∨ e.op = .close then 1 else if e.op = .opn then 2 else if e.op = .collect then 3
      else if e.origin = .link then 4 else if e.origin = .discovery then 5 else 6
    let may (spacing : Bool) (e : Entry) : Prop :=
      e.state = .queued ∧ (s.line.state = .on ∨ (s.line.state = .sweeping ∧ e.origin = .discovery)) ∧
      (∀ a f, e.replyAddr = some a → f ∈ s.sched.entries → f.state = .sent ∨ f.state = .holding →
        f.replyAddr ≠ some a) ∧
      ¬ (spacing = true ∧ (e.op = .opn ∨ e.op = .close ∨ e.op = .allClose))
    let first (spacing : Bool) (i : Nat) (e : Entry) : Prop :=
      s.entry? i = some e ∧ may spacing e ∧ ∀ j f, s.entry? j = some f → may spacing f → j ≠ i →
        rank e < rank f ∨ (rank e = rank f ∧
          (e.queuedAt < f.queuedAt ∨ (e.queuedAt = f.queuedAt ∧ i < j)))
    let started (i : Nat) (e : Entry) : Scheduler × Line :=
      ({ s.sched with entries := s.sched.entries.set i { e with state := .sent } },
       { s.line with guardEnd := none, reservation := none,
                     turn := some { entry := i, startedAt := s.timeBase, phase := .sending, waitEnd := none,
                                    replyLimit := none } })
    let guardDue := ∃ g, s.line.guardEnd = some g ∧ g ≤ s.timeBase
    let spacingDue := ∃ g, s.seqr.spacingEnd = some g ∧ g ≤ s.timeBase
    let spacing := s.seqr.spacingEnd.isSome
    (∀ i e, guardDue → first spacing i e →
      (s.line.foreignBusy = false →
        exec .guardExpiry s = .next { s with sched := (started i e).1, line := (started i e).2 }) ∧
      (s.line.foreignBusy = true →
        exec .guardExpiry s = .next { s with line := { s.line with guardEnd := none, reservation := some i } })) ∧
    (guardDue → (∀ e ∈ s.sched.entries, ¬ may spacing e) →
      exec .guardExpiry s = .next { s with line := { s.line with guardEnd := none, reservation := none } }) ∧
    (¬ guardDue → exec .guardExpiry s = .next s) ∧
    (∀ i e, spacingDue → s.line.foreignBusy = false → s.line.guardEnd = none → first false i e →
      exec .spacingExpiry s =
        .next { s with sched := (started i e).1, line := (started i e).2,
                       seqr := { s.seqr with spacingEnd := none } }) ∧
    (spacingDue → (∀ e ∈ s.sched.entries, ¬ may false e) →
      exec .spacingExpiry s = .next { s with seqr := { s.seqr with spacingEnd := none },
                                             line := { s.line with reservation := none } }) ∧
    (¬ spacingDue → exec .spacingExpiry s = .next s)

/-! ## The field line (chapter 10) -/

/-- LINE_SET: a value that is neither 0 nor 1 is refused; power acts by the table of R161, quiet_allowed takes its
value, and the line wakes or is tested for quiet; the reply carries the state, the latch and quiet_allowed as they then
stand (R121, R160, R161, R164, R165). The LINE_EVENT of a loss of power is told with an empty queue and no forwarded
request waiting, where it is the one notice (R160). -/
def Obligations.LineSetSetsPowerAndQuiet : Prop :=
  ∀ (on quiet tag : Byte) (s : State), s.Takes [on, quiet] → s.Settled → s.sched.entries.length = 16 →
    let request := Instr.lineSet tag [on, quiet]
    let allowed := decide (quiet.toNat = 1)
    let calm := s.arb.runs = [] ∧ (∀ e ∈ s.sched.entries, e.state = .free) ∧ s.sched.waits = [] ∧
      s.devs.sweepEnd = none ∧
      ∀ p ∈ s.poller.polls, p.state = .waiting ∧ ∃ w, p.nextPoll = some w ∧ s.clock.uptime + 120 < w
    let l := s.line
    let answer (st : LineState) (latched : Bool) : HostFrame :=
      replyFrame 0x1D#8 tag .ok [u8 st.code, flagByte latched, flagByte allowed]
    (1 < on.toNat ∨ 1 < quiet.toNat → RefusedWith request 0x1D#8 tag .badField s) ∧
    (on.toNat ≤ 1 → quiet.toNat ≤ 1 →
      ∃ t, exec request s = .next t ∧ t.line.quietAllowed = allowed ∧
        t.Answered (answer t.line.state t.line.latched) ∧
        (on.toNat = 1 → l.state = .off → l.stateEnd = none →
          t.line.state = .rising ∧ t.line.stateEnd = some (s.timeBase + 2000) ∧ t.line.latched = false ∧
          t.line.overcurrents = [] ∧
          t.devs = { s.devs with floor := 0#32, overflowReported := false, nextWindow := none } ∧
          t.link = (s.link.queueReply (answer .rising false)).post (.lineEvent .rising .off .lineSet)) ∧
        (on.toNat = 1 → ¬ (l.state = .off ∧ l.stateEnd = none) →
          t.line.latched = l.latched ∧ t.line.overcurrents = l.overcurrents ∧
          t.link = s.link.queueReply (answer t.line.state l.latched) ∧
          (l.state = .quiet → allowed = false →
            t.line.state = .waking ∧ t.line.stateEnd = some (s.timeBase + 300)) ∧
          (l.state = .on → allowed = true → calm → t.line.state = .quiet ∧ t.line.stateEnd = none) ∧
          (¬ (l.state = .quiet ∧ allowed = false) → ¬ (l.state = .on ∧ allowed = true ∧ calm) →
            t.line.state = l.state ∧ t.line.stateEnd = l.stateEnd)) ∧
        (on.toNat = 0 → l.state = .off →
          t.line.state = .off ∧ t.line.stateEnd = none ∧ t.line.latched = l.latched ∧
          t.link = s.link.queueReply (answer .off l.latched)) ∧
        (on.toNat = 0 → l.state = .fault →
          t.line.state = .off ∧ t.line.stateEnd = none ∧ t.line.latched = l.latched ∧
          t.link = (s.link.queueReply (answer .off l.latched)).post (.lineEvent .off .fault .lineSet)) ∧
        (on.toNat = 0 → l.state ≠ .off → l.state ≠ .fault →
          t.line.state = .off ∧ t.line.stateEnd = none ∧ t.line.latched = l.latched ∧
          t.line.overcurrents = l.overcurrents ∧ t.line.cleared ∧ s.PowerLost t ∧ t.supply.windowDiscard = true ∧
          (s.arb.runs = [] → (∀ x ∈ s.link.slots, x.state ≠ .waiting) →
            t.link = (s.link.queueReply (answer .off l.latched)).post (.lineEvent .off l.state .lineSet))))

/-- The timed states of R162: each moves on at state_end with its notice and its hand-offs, and a timer that has not
fallen due, or belongs to another state, changes nothing (R44, R131, R162; the guards are log 2's). -/
def Obligations.LineTimersStepTheLine : Prop :=
  ∀ s : State, s.Settled →
    let due := ∃ e, s.line.stateEnd = some e ∧ e ≤ s.timeBase
    let rises (c : Instr) (left : LineState) (cause : LineCause) : Prop :=
      ∃ t, exec c s = .next t ∧ t.line.state = .rising ∧ t.line.stateEnd = some (s.timeBase + 2000) ∧
        t.devs = { s.devs with floor := 0#32, overflowReported := false, nextWindow := none } ∧
        t.link = s.link.post (.lineEvent .rising left cause)
    let reachesOn (t : State) : Prop :=
      (s.line.quietAllowed = false → t.line.state = .on ∧ t.line.stateEnd = none) ∧
      t.devs.nextWindow = (if s.devs.sweepEnd = none then some (s.timeBase + 5000) else s.devs.nextWindow)
    (due → s.line.state = .rising →
      ∃ t, exec .riseDone s = .next t ∧ t.line.state = .sweeping ∧ t.line.stateEnd = some (s.timeBase + 10000) ∧
        t.devs = { s.devs with nextWindow := some s.timeBase } ∧
        t.link = s.link.post (.lineEvent .sweeping .rising .riseDone)) ∧
    (due → s.line.state = .sweeping →
      ∃ t, exec .sweepDone s = .next t ∧ reachesOn t ∧ (∀ q ∈ t.arb.runs, q.suspLine = false) ∧
        (s.arb.runs = [] → t.link = s.link.post (.lineEvent .on .sweeping .sweepDone)) ∧
        ∀ q r, s.arb.runs = [q] → s.zone? q.zone = some r → r.unreachable = true → q.state = .suspended →
          q.suspHold = false → t.arb.runs = [{ q with suspLine := false, state := .waiting }]) ∧
    (due → s.line.state = .waking →
      ∃ t, exec .wakeDone s = .next t ∧ reachesOn t ∧ (s.arb.runs = [] → t.link = s.link)) ∧
    (due → s.line.state = .fault → rises .coolDownDone .fault .coolDownDone) ∧
    (due → s.line.state = .off → rises .restart .off .restart) ∧
    (¬ due ∨ s.line.state ≠ .rising → exec .riseDone s = .next s) ∧
    (¬ due ∨ s.line.state ≠ .sweeping → exec .sweepDone s = .next s) ∧
    (¬ due ∨ s.line.state ≠ .waking → exec .wakeDone s = .next s) ∧
    (¬ due ∨ s.line.state ≠ .fault → exec .coolDownDone s = .next s) ∧
    (¬ due ∨ s.line.state ≠ .off → exec .restart s = .next s)

/-- An overcurrent cuts the power of a powered line: to FAULT for 30 s, or at the third within 600 s to OFF with the
latch set; it is ignored on an unpowered one. RESET FIELD is answered OK, acts on the line by the table of R166, makes
every record UNPLACED, ends every transaction, and marks every reading not fresh, which takes the zones' estimates away
(R24, R49, R128, R141, R158, R160, R163, R166). The LINE_EVENT of the loss is told with an empty queue and no forwarded
request waiting, where it is the one notice (R160). -/
def Obligations.OvercurrentAndResetFieldCutPower : Prop :=
  ∀ s : State, s.Settled → s.sched.entries.length = 16 →
    let l := s.line
    let recent := l.overcurrents.filter fun u => s.clock.uptime ≤ u + 600
    let powered := l.state ≠ .off ∧ l.state ≠ .fault
    let posts (before : Link) (n : List Notice) (t : State) : Prop :=
      s.arb.runs = [] → (∀ x ∈ s.link.slots, x.state ≠ .waiting) → t.link = before.postAll n
    (powered → recent.length < 2 →
      ∃ t, exec .overcurrent s = .next t ∧ t.line.state = .fault ∧ t.line.stateEnd = some (s.timeBase + 30000) ∧
        t.line.overcurrents = recent ++ [s.clock.uptime] ∧ t.line.latched = l.latched ∧ t.line.cleared ∧ s.PowerLost t ∧
        t.supply.windowDiscard = true ∧ posts s.link [.lineEvent .fault l.state .overcurrent] t) ∧
    (powered → 2 ≤ recent.length →
      ∃ t, exec .overcurrent s = .next t ∧ t.line.state = .off ∧ t.line.stateEnd = none ∧ t.line.overcurrents = [] ∧
        t.line.latched = true ∧ t.line.cleared ∧ s.PowerLost t ∧ t.supply.windowDiscard = true ∧
        posts s.link [.lineEvent .off l.state .overcurrentLatched] t) ∧
    (¬ powered → exec .overcurrent s = .next s) ∧
    (∀ q x start len, powered → s.arb.runs = [q] → q.state = .opened → s.record? q.zone = some x →
      x.cycleStart = some start → q.cycleS = some len → q.destination = none → recent.length < 2 →
      s.clock.uptime < q.enqueuedAt + 86400 → min (s.clock.uptime - start) len < q.remainingS →
      ∃ t q', exec .overcurrent s = .next t ∧ t.arb.runs = [q'] ∧ q'.zone = q.zone ∧ q'.state = .suspended ∧
        q'.suspLine = true ∧ q'.remainingS = q.remainingS - min (s.clock.uptime - start) len) ∧
    (∀ tag, s.Takes [1#8] →
      ∃ t, exec (.resetField tag [1#8]) s = .next t ∧ t.Answered (replyFrame 0x1F#8 tag .ok []) ∧ s.PowerLost t ∧
        t.line.quietAllowed = l.quietAllowed ∧ t.line.overcurrents = l.overcurrents ∧ t.line.latched = l.latched ∧
        (powered → t.line.state = .off ∧ t.line.stateEnd = some (s.timeBase + 5000) ∧ t.line.cleared ∧
          posts (s.link.queueReply (replyFrame 0x1F#8 tag .ok [])) [.lineEvent .off l.state .resetField] t) ∧
        (¬ powered → posts (s.link.queueReply (replyFrame 0x1F#8 tag .ok [])) [] t) ∧
        (l.state = .off → l.latched = false → t.line.state = .off ∧ t.line.stateEnd = some (s.timeBase + 5000)) ∧
        (l.state = .fault ∨ (l.state = .off ∧ l.latched = true) →
          t.line.state = l.state ∧ t.line.stateEnd = l.stateEnd) ∧
        t.poller.channels =
          s.poller.channels.map (fun o => o.map fun c => { c with fresh := false, staleAt := none }) ∧
        ∀ z r ref c, z ≤ 48 → s.zone? z = some r → ref ∈ r.channels → s.channel? ref.serial ref.num = some c →
          ∃ r', t.zone? z = some r' ∧ r'.estimate = none)

/-- Foreign traffic: outside our turns a start condition sets foreign_busy for at most 20 ms, a stop condition clears it
and starts the guard of 6 ms, a bad frame ends no turn that does not run, and an ANNOUNCE outside our slot is discarded; a
COMMAND of another master that moves an output of one of the zones, or closes them all, is reported, and no other is (R168,
R169, R171). The bytes of a frame are those that the part did not send (log 56). The model's: a frame that begins within our
turn is remembered, and sets foreign_busy when the turn ends before it (R167, log 28); a cut-off that has not fallen due
does nothing (log 2); an OPEN or CLOSE without its byte is heard as one with a byte that is free (log 13), and bytes beyond
the layout of a COMMAND are ignored (log 62). -/
def Obligations.ForeignTrafficIsHeard : Prop :=
  ∀ s : State, s.Settled →
    let powered := s.line.state ≠ .off ∧ s.line.state ≠ .fault
    let heard (t : State) : Prop :=
      t = { s with line := t.line, link := t.link } ∧ t.line.foreignBusy = false ∧ t.line.foreignLimit = none ∧
      t.line.guardEnd = some (s.timeBase + 6) ∧ t.line.state = s.line.state ∧
      t.line.turn = s.line.turn.map fun u => { u with replyLimit := none }
    (powered → s.line.turn = none →
      ∃ t, exec .foreignFrameStart s = .next t ∧
        t = { s with line := { s.line with foreignBusy := true, foreignLimit := some (s.timeBase + 20),
                                           reservation := t.line.reservation } }) ∧
    (powered → s.line.turn ≠ none →
      exec .foreignFrameStart s =
        .next { s with line := { s.line with foreignLimit := some (s.timeBase + 20) } }) ∧
    (¬ powered → exec .foreignFrameStart s = .next s) ∧
    (∀ u e w limit, s.line.turn = some u → s.entry? u.entry = some e → s.line.foreignLimit = some limit →
      u.phase = .awaiting → u.replyLimit = none → u.waitEnd = some w → w ≤ s.timeBase →
      ∃ t, exec .turnTimeout s = .next t ∧ t.line.turn = none ∧ t.line.foreignBusy = true ∧
        t.line.foreignLimit = some limit ∧ ∀ y, t.entry? u.entry = some y → y.state ≠ .sent) ∧
    (∀ (address : BitVec 6) (tag op : Byte) (payload frame : List Byte), powered →
      FieldBytes 3 address tag op payload frame → (∀ u, s.line.turn = some u → u.phase ≠ .announceSlot) →
      ∃ t, exec (.foreignFrameStop frame) s = .next t ∧ heard t ∧ t.link = s.link) ∧
    (∀ frame, powered → s.line.turn = none → FieldFails frame →
      ∃ t, exec (.foreignFrameStop frame) s = .next t ∧ heard t ∧ t.link = s.link) ∧
    (∀ frame, ¬ powered → (∀ address tag code payload, ¬ FieldBytes 1 address tag code payload frame) →
      exec (.foreignFrameStop frame) s = .next s) ∧
    (∀ (address : BitVec 6) (tag op : Byte) (payload frame : List Byte), powered →
      FieldBytes 2 address tag op payload frame →
      let run := exec (.foreignFrameStop frame) s
      ∃ t, run = .next t ∧ heard t ∧
        (op = 9#8 → t.link = s.link.post (.foreignActuation .allClose none none none)) ∧
        (op ≠ 7#8 → op ≠ 8#8 → op ≠ 9#8 → t.link = s.link) ∧
        (payload = [] → ∃ b whole, FieldBytes 2 address tag op [b] whole ∧ run = exec (.foreignFrameStop whole) s)) ∧
    (∀ (address : BitVec 6) (tag op num : Byte) (rest frame : List Byte), powered →
      FieldBytes 2 address tag op (num :: rest) frame →
      let owns (z : Nat) (ref : Ref) : Prop := z ≤ 48 ∧ ∃ r, s.zone? z = some r ∧ ref ∈ r.outputs
      let valve := (op = 7#8 ∨ op = 8#8) ∧ 1 ≤ address.toNat ∧ address.toNat ≤ 62 ∧ 1 ≤ num.toNat ∧ num.toNat ≤ 4
      ∃ t, exec (.foreignFrameStop frame) s = .next t ∧
        heard t ∧
        (∀ d z, valve → s.deviceAt? address.toNat = some d → owns z { serial := d.serial, num := num.toNat } →
          (∀ y, y < z → ¬ owns y { serial := d.serial, num := num.toNat }) →
          t.link = s.link.post (.foreignActuation (if op = 7#8 then .opn else .close) (some z)
            (some { serial := d.serial, num := num.toNat }) d.shortAddr)) ∧
        (op ≠ 9#8 → ¬ (valve ∧ ∃ d z, s.deviceAt? address.toNat = some d ∧
          owns z { serial := d.serial, num := num.toNat }) → t.link = s.link)) ∧
    (∀ w, s.line.foreignLimit = some w → w ≤ s.timeBase →
      ∃ t, exec .foreignFrameCutoff s = .next t ∧ t = { s with line := t.line, sched := t.sched } ∧
        t.line = { s.line with foreignBusy := false, foreignLimit := none, reservation := t.line.reservation,
                               turn := t.line.turn } ∧
        ∀ u, s.line.turn = some u → t.line.turn = some u ∧ t.sched = s.sched) ∧
    ((∀ w, s.line.foreignLimit = some w → s.timeBase < w) → exec .foreignFrameCutoff s = .next s) ∧
    (powered → s.line.turn = none →
      ∃ t, exec .fieldBadFrame s = .next t ∧ heard t ∧ t.link = s.link) ∧
    (¬ powered → exec .fieldBadFrame s = .next s)
end

