-- ==== Sys2Proof/Laws/State.lean ====
section
/-!
SUPPORT. What each update of State leaves in each field: one lemma per field per update, true by rfl.
-/

-- One theorem at a time, which keeps the number of Lean's threads small.
set_option Elab.async false
namespace Sys2Proof.Machine

/-! ## State.mapClock -/

@[simp] theorem State.mapClock_pending (f : Clock → Clock) (s : State) : (s.mapClock f).pending = s.pending := rfl
@[simp] theorem State.mapClock_timeBase (f : Clock → Clock) (s : State) : (s.mapClock f).timeBase = s.timeBase := rfl
@[simp] theorem State.mapClock_clock (f : Clock → Clock) (s : State) : (s.mapClock f).clock = f s.clock := rfl
@[simp] theorem State.mapClock_grid (f : Clock → Clock) (s : State) : (s.mapClock f).grid = s.grid := rfl
@[simp] theorem State.mapClock_zones (f : Clock → Clock) (s : State) : (s.mapClock f).zones = s.zones := rfl
@[simp] theorem State.mapClock_arb (f : Clock → Clock) (s : State) : (s.mapClock f).arb = s.arb := rfl
@[simp] theorem State.mapClock_seqr (f : Clock → Clock) (s : State) : (s.mapClock f).seqr = s.seqr := rfl
@[simp] theorem State.mapClock_supply (f : Clock → Clock) (s : State) : (s.mapClock f).supply = s.supply := rfl
@[simp] theorem State.mapClock_hold (f : Clock → Clock) (s : State) : (s.mapClock f).hold = s.hold := rfl
@[simp] theorem State.mapClock_poller (f : Clock → Clock) (s : State) : (s.mapClock f).poller = s.poller := rfl
@[simp] theorem State.mapClock_devs (f : Clock → Clock) (s : State) : (s.mapClock f).devs = s.devs := rfl
@[simp] theorem State.mapClock_sched (f : Clock → Clock) (s : State) : (s.mapClock f).sched = s.sched := rfl
@[simp] theorem State.mapClock_line (f : Clock → Clock) (s : State) : (s.mapClock f).line = s.line := rfl
@[simp] theorem State.mapClock_link (f : Clock → Clock) (s : State) : (s.mapClock f).link = s.link := rfl
@[simp] theorem State.mapClock_rainIn (f : Clock → Clock) (s : State) : (s.mapClock f).rainIn = s.rainIn := rfl
@[simp] theorem State.mapClock_todo (f : Clock → Clock) (s : State) : (s.mapClock f).todo = s.todo := rfl
@[simp] theorem State.mapClock_freeCount (f : Clock → Clock) (s : State) : (s.mapClock f).freeCount = s.freeCount := rfl
@[simp] theorem State.mapClock_uptime (f : Clock → Clock) (s : State) : (s.mapClock f).uptime = (f s.clock).uptime := rfl

/-! ## State.mapGrid -/

@[simp] theorem State.mapGrid_pending (f : Grid → Grid) (s : State) : (s.mapGrid f).pending = s.pending := rfl
@[simp] theorem State.mapGrid_timeBase (f : Grid → Grid) (s : State) : (s.mapGrid f).timeBase = s.timeBase := rfl
@[simp] theorem State.mapGrid_clock (f : Grid → Grid) (s : State) : (s.mapGrid f).clock = s.clock := rfl
@[simp] theorem State.mapGrid_grid (f : Grid → Grid) (s : State) : (s.mapGrid f).grid = f s.grid := rfl
@[simp] theorem State.mapGrid_zones (f : Grid → Grid) (s : State) : (s.mapGrid f).zones = s.zones := rfl
@[simp] theorem State.mapGrid_arb (f : Grid → Grid) (s : State) : (s.mapGrid f).arb = s.arb := rfl
@[simp] theorem State.mapGrid_seqr (f : Grid → Grid) (s : State) : (s.mapGrid f).seqr = s.seqr := rfl
@[simp] theorem State.mapGrid_supply (f : Grid → Grid) (s : State) : (s.mapGrid f).supply = s.supply := rfl
@[simp] theorem State.mapGrid_hold (f : Grid → Grid) (s : State) : (s.mapGrid f).hold = s.hold := rfl
@[simp] theorem State.mapGrid_poller (f : Grid → Grid) (s : State) : (s.mapGrid f).poller = s.poller := rfl
@[simp] theorem State.mapGrid_devs (f : Grid → Grid) (s : State) : (s.mapGrid f).devs = s.devs := rfl
@[simp] theorem State.mapGrid_sched (f : Grid → Grid) (s : State) : (s.mapGrid f).sched = s.sched := rfl
@[simp] theorem State.mapGrid_line (f : Grid → Grid) (s : State) : (s.mapGrid f).line = s.line := rfl
@[simp] theorem State.mapGrid_link (f : Grid → Grid) (s : State) : (s.mapGrid f).link = s.link := rfl
@[simp] theorem State.mapGrid_rainIn (f : Grid → Grid) (s : State) : (s.mapGrid f).rainIn = s.rainIn := rfl
@[simp] theorem State.mapGrid_todo (f : Grid → Grid) (s : State) : (s.mapGrid f).todo = s.todo := rfl
@[simp] theorem State.mapGrid_freeCount (f : Grid → Grid) (s : State) : (s.mapGrid f).freeCount = s.freeCount := rfl
@[simp] theorem State.mapGrid_uptime (f : Grid → Grid) (s : State) : (s.mapGrid f).uptime = s.uptime := rfl

/-! ## State.mapZones -/

@[simp] theorem State.mapZones_pending (f : List Zone → List Zone) (s : State) : (s.mapZones f).pending = s.pending := rfl
@[simp] theorem State.mapZones_timeBase (f : List Zone → List Zone) (s : State) : (s.mapZones f).timeBase = s.timeBase := rfl
@[simp] theorem State.mapZones_clock (f : List Zone → List Zone) (s : State) : (s.mapZones f).clock = s.clock := rfl
@[simp] theorem State.mapZones_grid (f : List Zone → List Zone) (s : State) : (s.mapZones f).grid = s.grid := rfl
@[simp] theorem State.mapZones_zones (f : List Zone → List Zone) (s : State) : (s.mapZones f).zones = f s.zones := rfl
@[simp] theorem State.mapZones_arb (f : List Zone → List Zone) (s : State) : (s.mapZones f).arb = s.arb := rfl
@[simp] theorem State.mapZones_seqr (f : List Zone → List Zone) (s : State) : (s.mapZones f).seqr = s.seqr := rfl
@[simp] theorem State.mapZones_supply (f : List Zone → List Zone) (s : State) : (s.mapZones f).supply = s.supply := rfl
@[simp] theorem State.mapZones_hold (f : List Zone → List Zone) (s : State) : (s.mapZones f).hold = s.hold := rfl
@[simp] theorem State.mapZones_poller (f : List Zone → List Zone) (s : State) : (s.mapZones f).poller = s.poller := rfl
@[simp] theorem State.mapZones_devs (f : List Zone → List Zone) (s : State) : (s.mapZones f).devs = s.devs := rfl
@[simp] theorem State.mapZones_sched (f : List Zone → List Zone) (s : State) : (s.mapZones f).sched = s.sched := rfl
@[simp] theorem State.mapZones_line (f : List Zone → List Zone) (s : State) : (s.mapZones f).line = s.line := rfl
@[simp] theorem State.mapZones_link (f : List Zone → List Zone) (s : State) : (s.mapZones f).link = s.link := rfl
@[simp] theorem State.mapZones_rainIn (f : List Zone → List Zone) (s : State) : (s.mapZones f).rainIn = s.rainIn := rfl
@[simp] theorem State.mapZones_todo (f : List Zone → List Zone) (s : State) : (s.mapZones f).todo = s.todo := rfl
@[simp] theorem State.mapZones_freeCount (f : List Zone → List Zone) (s : State) : (s.mapZones f).freeCount = s.freeCount := rfl
@[simp] theorem State.mapZones_uptime (f : List Zone → List Zone) (s : State) : (s.mapZones f).uptime = s.uptime := rfl

/-! ## State.mapArb -/

@[simp] theorem State.mapArb_pending (f : Arbiter → Arbiter) (s : State) : (s.mapArb f).pending = s.pending := rfl
@[simp] theorem State.mapArb_timeBase (f : Arbiter → Arbiter) (s : State) : (s.mapArb f).timeBase = s.timeBase := rfl
@[simp] theorem State.mapArb_clock (f : Arbiter → Arbiter) (s : State) : (s.mapArb f).clock = s.clock := rfl
@[simp] theorem State.mapArb_grid (f : Arbiter → Arbiter) (s : State) : (s.mapArb f).grid = s.grid := rfl
@[simp] theorem State.mapArb_zones (f : Arbiter → Arbiter) (s : State) : (s.mapArb f).zones = s.zones := rfl
@[simp] theorem State.mapArb_arb (f : Arbiter → Arbiter) (s : State) : (s.mapArb f).arb = f s.arb := rfl
@[simp] theorem State.mapArb_seqr (f : Arbiter → Arbiter) (s : State) : (s.mapArb f).seqr = s.seqr := rfl
@[simp] theorem State.mapArb_supply (f : Arbiter → Arbiter) (s : State) : (s.mapArb f).supply = s.supply := rfl
@[simp] theorem State.mapArb_hold (f : Arbiter → Arbiter) (s : State) : (s.mapArb f).hold = s.hold := rfl
@[simp] theorem State.mapArb_poller (f : Arbiter → Arbiter) (s : State) : (s.mapArb f).poller = s.poller := rfl
@[simp] theorem State.mapArb_devs (f : Arbiter → Arbiter) (s : State) : (s.mapArb f).devs = s.devs := rfl
@[simp] theorem State.mapArb_sched (f : Arbiter → Arbiter) (s : State) : (s.mapArb f).sched = s.sched := rfl
@[simp] theorem State.mapArb_line (f : Arbiter → Arbiter) (s : State) : (s.mapArb f).line = s.line := rfl
@[simp] theorem State.mapArb_link (f : Arbiter → Arbiter) (s : State) : (s.mapArb f).link = s.link := rfl
@[simp] theorem State.mapArb_rainIn (f : Arbiter → Arbiter) (s : State) : (s.mapArb f).rainIn = s.rainIn := rfl
@[simp] theorem State.mapArb_todo (f : Arbiter → Arbiter) (s : State) : (s.mapArb f).todo = s.todo := rfl
@[simp] theorem State.mapArb_freeCount (f : Arbiter → Arbiter) (s : State) : (s.mapArb f).freeCount = s.freeCount := rfl
@[simp] theorem State.mapArb_uptime (f : Arbiter → Arbiter) (s : State) : (s.mapArb f).uptime = s.uptime := rfl

/-! ## State.mapSeqr -/

@[simp] theorem State.mapSeqr_pending (f : Sequencer → Sequencer) (s : State) : (s.mapSeqr f).pending = s.pending := rfl
@[simp] theorem State.mapSeqr_timeBase (f : Sequencer → Sequencer) (s : State) : (s.mapSeqr f).timeBase = s.timeBase := rfl
@[simp] theorem State.mapSeqr_clock (f : Sequencer → Sequencer) (s : State) : (s.mapSeqr f).clock = s.clock := rfl
@[simp] theorem State.mapSeqr_grid (f : Sequencer → Sequencer) (s : State) : (s.mapSeqr f).grid = s.grid := rfl
@[simp] theorem State.mapSeqr_zones (f : Sequencer → Sequencer) (s : State) : (s.mapSeqr f).zones = s.zones := rfl
@[simp] theorem State.mapSeqr_arb (f : Sequencer → Sequencer) (s : State) : (s.mapSeqr f).arb = s.arb := rfl
@[simp] theorem State.mapSeqr_seqr (f : Sequencer → Sequencer) (s : State) : (s.mapSeqr f).seqr = f s.seqr := rfl
@[simp] theorem State.mapSeqr_supply (f : Sequencer → Sequencer) (s : State) : (s.mapSeqr f).supply = s.supply := rfl
@[simp] theorem State.mapSeqr_hold (f : Sequencer → Sequencer) (s : State) : (s.mapSeqr f).hold = s.hold := rfl
@[simp] theorem State.mapSeqr_poller (f : Sequencer → Sequencer) (s : State) : (s.mapSeqr f).poller = s.poller := rfl
@[simp] theorem State.mapSeqr_devs (f : Sequencer → Sequencer) (s : State) : (s.mapSeqr f).devs = s.devs := rfl
@[simp] theorem State.mapSeqr_sched (f : Sequencer → Sequencer) (s : State) : (s.mapSeqr f).sched = s.sched := rfl
@[simp] theorem State.mapSeqr_line (f : Sequencer → Sequencer) (s : State) : (s.mapSeqr f).line = s.line := rfl
@[simp] theorem State.mapSeqr_link (f : Sequencer → Sequencer) (s : State) : (s.mapSeqr f).link = s.link := rfl
@[simp] theorem State.mapSeqr_rainIn (f : Sequencer → Sequencer) (s : State) : (s.mapSeqr f).rainIn = s.rainIn := rfl
@[simp] theorem State.mapSeqr_todo (f : Sequencer → Sequencer) (s : State) : (s.mapSeqr f).todo = s.todo := rfl
@[simp] theorem State.mapSeqr_freeCount (f : Sequencer → Sequencer) (s : State) : (s.mapSeqr f).freeCount = s.freeCount := rfl
@[simp] theorem State.mapSeqr_uptime (f : Sequencer → Sequencer) (s : State) : (s.mapSeqr f).uptime = s.uptime := rfl

/-! ## State.mapSupply -/

@[simp] theorem State.mapSupply_pending (f : Supply → Supply) (s : State) : (s.mapSupply f).pending = s.pending := rfl
@[simp] theorem State.mapSupply_timeBase (f : Supply → Supply) (s : State) : (s.mapSupply f).timeBase = s.timeBase := rfl
@[simp] theorem State.mapSupply_clock (f : Supply → Supply) (s : State) : (s.mapSupply f).clock = s.clock := rfl
@[simp] theorem State.mapSupply_grid (f : Supply → Supply) (s : State) : (s.mapSupply f).grid = s.grid := rfl
@[simp] theorem State.mapSupply_zones (f : Supply → Supply) (s : State) : (s.mapSupply f).zones = s.zones := rfl
@[simp] theorem State.mapSupply_arb (f : Supply → Supply) (s : State) : (s.mapSupply f).arb = s.arb := rfl
@[simp] theorem State.mapSupply_seqr (f : Supply → Supply) (s : State) : (s.mapSupply f).seqr = s.seqr := rfl
@[simp] theorem State.mapSupply_supply (f : Supply → Supply) (s : State) : (s.mapSupply f).supply = f s.supply := rfl
@[simp] theorem State.mapSupply_hold (f : Supply → Supply) (s : State) : (s.mapSupply f).hold = s.hold := rfl
@[simp] theorem State.mapSupply_poller (f : Supply → Supply) (s : State) : (s.mapSupply f).poller = s.poller := rfl
@[simp] theorem State.mapSupply_devs (f : Supply → Supply) (s : State) : (s.mapSupply f).devs = s.devs := rfl
@[simp] theorem State.mapSupply_sched (f : Supply → Supply) (s : State) : (s.mapSupply f).sched = s.sched := rfl
@[simp] theorem State.mapSupply_line (f : Supply → Supply) (s : State) : (s.mapSupply f).line = s.line := rfl
@[simp] theorem State.mapSupply_link (f : Supply → Supply) (s : State) : (s.mapSupply f).link = s.link := rfl
@[simp] theorem State.mapSupply_rainIn (f : Supply → Supply) (s : State) : (s.mapSupply f).rainIn = s.rainIn := rfl
@[simp] theorem State.mapSupply_todo (f : Supply → Supply) (s : State) : (s.mapSupply f).todo = s.todo := rfl
@[simp] theorem State.mapSupply_freeCount (f : Supply → Supply) (s : State) : (s.mapSupply f).freeCount = s.freeCount := rfl
@[simp] theorem State.mapSupply_uptime (f : Supply → Supply) (s : State) : (s.mapSupply f).uptime = s.uptime := rfl

/-! ## State.mapHold -/

@[simp] theorem State.mapHold_pending (f : HoldUnit → HoldUnit) (s : State) : (s.mapHold f).pending = s.pending := rfl
@[simp] theorem State.mapHold_timeBase (f : HoldUnit → HoldUnit) (s : State) : (s.mapHold f).timeBase = s.timeBase := rfl
@[simp] theorem State.mapHold_clock (f : HoldUnit → HoldUnit) (s : State) : (s.mapHold f).clock = s.clock := rfl
@[simp] theorem State.mapHold_grid (f : HoldUnit → HoldUnit) (s : State) : (s.mapHold f).grid = s.grid := rfl
@[simp] theorem State.mapHold_zones (f : HoldUnit → HoldUnit) (s : State) : (s.mapHold f).zones = s.zones := rfl
@[simp] theorem State.mapHold_arb (f : HoldUnit → HoldUnit) (s : State) : (s.mapHold f).arb = s.arb := rfl
@[simp] theorem State.mapHold_seqr (f : HoldUnit → HoldUnit) (s : State) : (s.mapHold f).seqr = s.seqr := rfl
@[simp] theorem State.mapHold_supply (f : HoldUnit → HoldUnit) (s : State) : (s.mapHold f).supply = s.supply := rfl
@[simp] theorem State.mapHold_hold (f : HoldUnit → HoldUnit) (s : State) : (s.mapHold f).hold = f s.hold := rfl
@[simp] theorem State.mapHold_poller (f : HoldUnit → HoldUnit) (s : State) : (s.mapHold f).poller = s.poller := rfl
@[simp] theorem State.mapHold_devs (f : HoldUnit → HoldUnit) (s : State) : (s.mapHold f).devs = s.devs := rfl
@[simp] theorem State.mapHold_sched (f : HoldUnit → HoldUnit) (s : State) : (s.mapHold f).sched = s.sched := rfl
@[simp] theorem State.mapHold_line (f : HoldUnit → HoldUnit) (s : State) : (s.mapHold f).line = s.line := rfl
@[simp] theorem State.mapHold_link (f : HoldUnit → HoldUnit) (s : State) : (s.mapHold f).link = s.link := rfl
@[simp] theorem State.mapHold_rainIn (f : HoldUnit → HoldUnit) (s : State) : (s.mapHold f).rainIn = s.rainIn := rfl
@[simp] theorem State.mapHold_todo (f : HoldUnit → HoldUnit) (s : State) : (s.mapHold f).todo = s.todo := rfl
@[simp] theorem State.mapHold_freeCount (f : HoldUnit → HoldUnit) (s : State) : (s.mapHold f).freeCount = s.freeCount := rfl
@[simp] theorem State.mapHold_uptime (f : HoldUnit → HoldUnit) (s : State) : (s.mapHold f).uptime = s.uptime := rfl

/-! ## State.mapPoller -/

@[simp] theorem State.mapPoller_pending (f : Poller → Poller) (s : State) : (s.mapPoller f).pending = s.pending := rfl
@[simp] theorem State.mapPoller_timeBase (f : Poller → Poller) (s : State) : (s.mapPoller f).timeBase = s.timeBase := rfl
@[simp] theorem State.mapPoller_clock (f : Poller → Poller) (s : State) : (s.mapPoller f).clock = s.clock := rfl
@[simp] theorem State.mapPoller_grid (f : Poller → Poller) (s : State) : (s.mapPoller f).grid = s.grid := rfl
@[simp] theorem State.mapPoller_zones (f : Poller → Poller) (s : State) : (s.mapPoller f).zones = s.zones := rfl
@[simp] theorem State.mapPoller_arb (f : Poller → Poller) (s : State) : (s.mapPoller f).arb = s.arb := rfl
@[simp] theorem State.mapPoller_seqr (f : Poller → Poller) (s : State) : (s.mapPoller f).seqr = s.seqr := rfl
@[simp] theorem State.mapPoller_supply (f : Poller → Poller) (s : State) : (s.mapPoller f).supply = s.supply := rfl
@[simp] theorem State.mapPoller_hold (f : Poller → Poller) (s : State) : (s.mapPoller f).hold = s.hold := rfl
@[simp] theorem State.mapPoller_poller (f : Poller → Poller) (s : State) : (s.mapPoller f).poller = f s.poller := rfl
@[simp] theorem State.mapPoller_devs (f : Poller → Poller) (s : State) : (s.mapPoller f).devs = s.devs := rfl
@[simp] theorem State.mapPoller_sched (f : Poller → Poller) (s : State) : (s.mapPoller f).sched = s.sched := rfl
@[simp] theorem State.mapPoller_line (f : Poller → Poller) (s : State) : (s.mapPoller f).line = s.line := rfl
@[simp] theorem State.mapPoller_link (f : Poller → Poller) (s : State) : (s.mapPoller f).link = s.link := rfl
@[simp] theorem State.mapPoller_rainIn (f : Poller → Poller) (s : State) : (s.mapPoller f).rainIn = s.rainIn := rfl
@[simp] theorem State.mapPoller_todo (f : Poller → Poller) (s : State) : (s.mapPoller f).todo = s.todo := rfl
@[simp] theorem State.mapPoller_freeCount (f : Poller → Poller) (s : State) : (s.mapPoller f).freeCount = s.freeCount := rfl
@[simp] theorem State.mapPoller_uptime (f : Poller → Poller) (s : State) : (s.mapPoller f).uptime = s.uptime := rfl

/-! ## State.mapDevs -/

@[simp] theorem State.mapDevs_pending (f : DeviceManager → DeviceManager) (s : State) : (s.mapDevs f).pending = s.pending := rfl
@[simp] theorem State.mapDevs_timeBase (f : DeviceManager → DeviceManager) (s : State) : (s.mapDevs f).timeBase = s.timeBase := rfl
@[simp] theorem State.mapDevs_clock (f : DeviceManager → DeviceManager) (s : State) : (s.mapDevs f).clock = s.clock := rfl
@[simp] theorem State.mapDevs_grid (f : DeviceManager → DeviceManager) (s : State) : (s.mapDevs f).grid = s.grid := rfl
@[simp] theorem State.mapDevs_zones (f : DeviceManager → DeviceManager) (s : State) : (s.mapDevs f).zones = s.zones := rfl
@[simp] theorem State.mapDevs_arb (f : DeviceManager → DeviceManager) (s : State) : (s.mapDevs f).arb = s.arb := rfl
@[simp] theorem State.mapDevs_seqr (f : DeviceManager → DeviceManager) (s : State) : (s.mapDevs f).seqr = s.seqr := rfl
@[simp] theorem State.mapDevs_supply (f : DeviceManager → DeviceManager) (s : State) : (s.mapDevs f).supply = s.supply := rfl
@[simp] theorem State.mapDevs_hold (f : DeviceManager → DeviceManager) (s : State) : (s.mapDevs f).hold = s.hold := rfl
@[simp] theorem State.mapDevs_poller (f : DeviceManager → DeviceManager) (s : State) : (s.mapDevs f).poller = s.poller := rfl
@[simp] theorem State.mapDevs_devs (f : DeviceManager → DeviceManager) (s : State) : (s.mapDevs f).devs = f s.devs := rfl
@[simp] theorem State.mapDevs_sched (f : DeviceManager → DeviceManager) (s : State) : (s.mapDevs f).sched = s.sched := rfl
@[simp] theorem State.mapDevs_line (f : DeviceManager → DeviceManager) (s : State) : (s.mapDevs f).line = s.line := rfl
@[simp] theorem State.mapDevs_link (f : DeviceManager → DeviceManager) (s : State) : (s.mapDevs f).link = s.link := rfl
@[simp] theorem State.mapDevs_rainIn (f : DeviceManager → DeviceManager) (s : State) : (s.mapDevs f).rainIn = s.rainIn := rfl
@[simp] theorem State.mapDevs_todo (f : DeviceManager → DeviceManager) (s : State) : (s.mapDevs f).todo = s.todo := rfl
@[simp] theorem State.mapDevs_freeCount (f : DeviceManager → DeviceManager) (s : State) : (s.mapDevs f).freeCount = s.freeCount := rfl
@[simp] theorem State.mapDevs_uptime (f : DeviceManager → DeviceManager) (s : State) : (s.mapDevs f).uptime = s.uptime := rfl

/-! ## State.mapSched -/

@[simp] theorem State.mapSched_pending (f : Scheduler → Scheduler) (s : State) : (s.mapSched f).pending = s.pending := rfl
@[simp] theorem State.mapSched_timeBase (f : Scheduler → Scheduler) (s : State) : (s.mapSched f).timeBase = s.timeBase := rfl
@[simp] theorem State.mapSched_clock (f : Scheduler → Scheduler) (s : State) : (s.mapSched f).clock = s.clock := rfl
@[simp] theorem State.mapSched_grid (f : Scheduler → Scheduler) (s : State) : (s.mapSched f).grid = s.grid := rfl
@[simp] theorem State.mapSched_zones (f : Scheduler → Scheduler) (s : State) : (s.mapSched f).zones = s.zones := rfl
@[simp] theorem State.mapSched_arb (f : Scheduler → Scheduler) (s : State) : (s.mapSched f).arb = s.arb := rfl
@[simp] theorem State.mapSched_seqr (f : Scheduler → Scheduler) (s : State) : (s.mapSched f).seqr = s.seqr := rfl
@[simp] theorem State.mapSched_supply (f : Scheduler → Scheduler) (s : State) : (s.mapSched f).supply = s.supply := rfl
@[simp] theorem State.mapSched_hold (f : Scheduler → Scheduler) (s : State) : (s.mapSched f).hold = s.hold := rfl
@[simp] theorem State.mapSched_poller (f : Scheduler → Scheduler) (s : State) : (s.mapSched f).poller = s.poller := rfl
@[simp] theorem State.mapSched_devs (f : Scheduler → Scheduler) (s : State) : (s.mapSched f).devs = s.devs := rfl
@[simp] theorem State.mapSched_sched (f : Scheduler → Scheduler) (s : State) : (s.mapSched f).sched = f s.sched := rfl
@[simp] theorem State.mapSched_line (f : Scheduler → Scheduler) (s : State) : (s.mapSched f).line = s.line := rfl
@[simp] theorem State.mapSched_link (f : Scheduler → Scheduler) (s : State) : (s.mapSched f).link = s.link := rfl
@[simp] theorem State.mapSched_rainIn (f : Scheduler → Scheduler) (s : State) : (s.mapSched f).rainIn = s.rainIn := rfl
@[simp] theorem State.mapSched_todo (f : Scheduler → Scheduler) (s : State) : (s.mapSched f).todo = s.todo := rfl
@[simp] theorem State.mapSched_freeCount (f : Scheduler → Scheduler) (s : State) : (s.mapSched f).freeCount = s.freeCount := rfl
@[simp] theorem State.mapSched_uptime (f : Scheduler → Scheduler) (s : State) : (s.mapSched f).uptime = s.uptime := rfl

/-! ## State.mapLine -/

@[simp] theorem State.mapLine_pending (f : Line → Line) (s : State) : (s.mapLine f).pending = s.pending := rfl
@[simp] theorem State.mapLine_timeBase (f : Line → Line) (s : State) : (s.mapLine f).timeBase = s.timeBase := rfl
@[simp] theorem State.mapLine_clock (f : Line → Line) (s : State) : (s.mapLine f).clock = s.clock := rfl
@[simp] theorem State.mapLine_grid (f : Line → Line) (s : State) : (s.mapLine f).grid = s.grid := rfl
@[simp] theorem State.mapLine_zones (f : Line → Line) (s : State) : (s.mapLine f).zones = s.zones := rfl
@[simp] theorem State.mapLine_arb (f : Line → Line) (s : State) : (s.mapLine f).arb = s.arb := rfl
@[simp] theorem State.mapLine_seqr (f : Line → Line) (s : State) : (s.mapLine f).seqr = s.seqr := rfl
@[simp] theorem State.mapLine_supply (f : Line → Line) (s : State) : (s.mapLine f).supply = s.supply := rfl
@[simp] theorem State.mapLine_hold (f : Line → Line) (s : State) : (s.mapLine f).hold = s.hold := rfl
@[simp] theorem State.mapLine_poller (f : Line → Line) (s : State) : (s.mapLine f).poller = s.poller := rfl
@[simp] theorem State.mapLine_devs (f : Line → Line) (s : State) : (s.mapLine f).devs = s.devs := rfl
@[simp] theorem State.mapLine_sched (f : Line → Line) (s : State) : (s.mapLine f).sched = s.sched := rfl
@[simp] theorem State.mapLine_line (f : Line → Line) (s : State) : (s.mapLine f).line = f s.line := rfl
@[simp] theorem State.mapLine_link (f : Line → Line) (s : State) : (s.mapLine f).link = s.link := rfl
@[simp] theorem State.mapLine_rainIn (f : Line → Line) (s : State) : (s.mapLine f).rainIn = s.rainIn := rfl
@[simp] theorem State.mapLine_todo (f : Line → Line) (s : State) : (s.mapLine f).todo = s.todo := rfl
@[simp] theorem State.mapLine_freeCount (f : Line → Line) (s : State) : (s.mapLine f).freeCount = s.freeCount := rfl
@[simp] theorem State.mapLine_uptime (f : Line → Line) (s : State) : (s.mapLine f).uptime = s.uptime := rfl

/-! ## State.mapLink -/

@[simp] theorem State.mapLink_pending (f : Link → Link) (s : State) : (s.mapLink f).pending = s.pending := rfl
@[simp] theorem State.mapLink_timeBase (f : Link → Link) (s : State) : (s.mapLink f).timeBase = s.timeBase := rfl
@[simp] theorem State.mapLink_clock (f : Link → Link) (s : State) : (s.mapLink f).clock = s.clock := rfl
@[simp] theorem State.mapLink_grid (f : Link → Link) (s : State) : (s.mapLink f).grid = s.grid := rfl
@[simp] theorem State.mapLink_zones (f : Link → Link) (s : State) : (s.mapLink f).zones = s.zones := rfl
@[simp] theorem State.mapLink_arb (f : Link → Link) (s : State) : (s.mapLink f).arb = s.arb := rfl
@[simp] theorem State.mapLink_seqr (f : Link → Link) (s : State) : (s.mapLink f).seqr = s.seqr := rfl
@[simp] theorem State.mapLink_supply (f : Link → Link) (s : State) : (s.mapLink f).supply = s.supply := rfl
@[simp] theorem State.mapLink_hold (f : Link → Link) (s : State) : (s.mapLink f).hold = s.hold := rfl
@[simp] theorem State.mapLink_poller (f : Link → Link) (s : State) : (s.mapLink f).poller = s.poller := rfl
@[simp] theorem State.mapLink_devs (f : Link → Link) (s : State) : (s.mapLink f).devs = s.devs := rfl
@[simp] theorem State.mapLink_sched (f : Link → Link) (s : State) : (s.mapLink f).sched = s.sched := rfl
@[simp] theorem State.mapLink_line (f : Link → Link) (s : State) : (s.mapLink f).line = s.line := rfl
@[simp] theorem State.mapLink_link (f : Link → Link) (s : State) : (s.mapLink f).link = f s.link := rfl
@[simp] theorem State.mapLink_rainIn (f : Link → Link) (s : State) : (s.mapLink f).rainIn = s.rainIn := rfl
@[simp] theorem State.mapLink_todo (f : Link → Link) (s : State) : (s.mapLink f).todo = s.todo := rfl
@[simp] theorem State.mapLink_freeCount (f : Link → Link) (s : State) : (s.mapLink f).freeCount = s.freeCount := rfl
@[simp] theorem State.mapLink_uptime (f : Link → Link) (s : State) : (s.mapLink f).uptime = s.uptime := rfl

/-! ## State.mapTodo -/

@[simp] theorem State.mapTodo_pending (f : Todo → Todo) (s : State) : (s.mapTodo f).pending = s.pending := rfl
@[simp] theorem State.mapTodo_timeBase (f : Todo → Todo) (s : State) : (s.mapTodo f).timeBase = s.timeBase := rfl
@[simp] theorem State.mapTodo_clock (f : Todo → Todo) (s : State) : (s.mapTodo f).clock = s.clock := rfl
@[simp] theorem State.mapTodo_grid (f : Todo → Todo) (s : State) : (s.mapTodo f).grid = s.grid := rfl
@[simp] theorem State.mapTodo_zones (f : Todo → Todo) (s : State) : (s.mapTodo f).zones = s.zones := rfl
@[simp] theorem State.mapTodo_arb (f : Todo → Todo) (s : State) : (s.mapTodo f).arb = s.arb := rfl
@[simp] theorem State.mapTodo_seqr (f : Todo → Todo) (s : State) : (s.mapTodo f).seqr = s.seqr := rfl
@[simp] theorem State.mapTodo_supply (f : Todo → Todo) (s : State) : (s.mapTodo f).supply = s.supply := rfl
@[simp] theorem State.mapTodo_hold (f : Todo → Todo) (s : State) : (s.mapTodo f).hold = s.hold := rfl
@[simp] theorem State.mapTodo_poller (f : Todo → Todo) (s : State) : (s.mapTodo f).poller = s.poller := rfl
@[simp] theorem State.mapTodo_devs (f : Todo → Todo) (s : State) : (s.mapTodo f).devs = s.devs := rfl
@[simp] theorem State.mapTodo_sched (f : Todo → Todo) (s : State) : (s.mapTodo f).sched = s.sched := rfl
@[simp] theorem State.mapTodo_line (f : Todo → Todo) (s : State) : (s.mapTodo f).line = s.line := rfl
@[simp] theorem State.mapTodo_link (f : Todo → Todo) (s : State) : (s.mapTodo f).link = s.link := rfl
@[simp] theorem State.mapTodo_rainIn (f : Todo → Todo) (s : State) : (s.mapTodo f).rainIn = s.rainIn := rfl
@[simp] theorem State.mapTodo_todo (f : Todo → Todo) (s : State) : (s.mapTodo f).todo = f s.todo := rfl
@[simp] theorem State.mapTodo_freeCount (f : Todo → Todo) (s : State) : (s.mapTodo f).freeCount = s.freeCount := rfl
@[simp] theorem State.mapTodo_uptime (f : Todo → Todo) (s : State) : (s.mapTodo f).uptime = s.uptime := rfl

/-! ## State.setRainIn -/

@[simp] theorem State.setRainIn_pending (level : PinLevel) (s : State) : (s.setRainIn level).pending = s.pending := rfl
@[simp] theorem State.setRainIn_timeBase (level : PinLevel) (s : State) : (s.setRainIn level).timeBase = s.timeBase := rfl
@[simp] theorem State.setRainIn_clock (level : PinLevel) (s : State) : (s.setRainIn level).clock = s.clock := rfl
@[simp] theorem State.setRainIn_grid (level : PinLevel) (s : State) : (s.setRainIn level).grid = s.grid := rfl
@[simp] theorem State.setRainIn_zones (level : PinLevel) (s : State) : (s.setRainIn level).zones = s.zones := rfl
@[simp] theorem State.setRainIn_arb (level : PinLevel) (s : State) : (s.setRainIn level).arb = s.arb := rfl
@[simp] theorem State.setRainIn_seqr (level : PinLevel) (s : State) : (s.setRainIn level).seqr = s.seqr := rfl
@[simp] theorem State.setRainIn_supply (level : PinLevel) (s : State) : (s.setRainIn level).supply = s.supply := rfl
@[simp] theorem State.setRainIn_hold (level : PinLevel) (s : State) : (s.setRainIn level).hold = s.hold := rfl
@[simp] theorem State.setRainIn_poller (level : PinLevel) (s : State) : (s.setRainIn level).poller = s.poller := rfl
@[simp] theorem State.setRainIn_devs (level : PinLevel) (s : State) : (s.setRainIn level).devs = s.devs := rfl
@[simp] theorem State.setRainIn_sched (level : PinLevel) (s : State) : (s.setRainIn level).sched = s.sched := rfl
@[simp] theorem State.setRainIn_line (level : PinLevel) (s : State) : (s.setRainIn level).line = s.line := rfl
@[simp] theorem State.setRainIn_link (level : PinLevel) (s : State) : (s.setRainIn level).link = s.link := rfl
@[simp] theorem State.setRainIn_rainIn (level : PinLevel) (s : State) : (s.setRainIn level).rainIn = level := rfl
@[simp] theorem State.setRainIn_todo (level : PinLevel) (s : State) : (s.setRainIn level).todo = s.todo := rfl
@[simp] theorem State.setRainIn_freeCount (level : PinLevel) (s : State) : (s.setRainIn level).freeCount = s.freeCount := rfl
@[simp] theorem State.setRainIn_uptime (level : PinLevel) (s : State) : (s.setRainIn level).uptime = s.uptime := rfl

/-! ## State.setPending -/

@[simp] theorem State.setPending_pending (p : List Instr) (s : State) : (s.setPending p).pending = p := rfl
@[simp] theorem State.setPending_timeBase (p : List Instr) (s : State) : (s.setPending p).timeBase = s.timeBase := rfl
@[simp] theorem State.setPending_clock (p : List Instr) (s : State) : (s.setPending p).clock = s.clock := rfl
@[simp] theorem State.setPending_grid (p : List Instr) (s : State) : (s.setPending p).grid = s.grid := rfl
@[simp] theorem State.setPending_zones (p : List Instr) (s : State) : (s.setPending p).zones = s.zones := rfl
@[simp] theorem State.setPending_arb (p : List Instr) (s : State) : (s.setPending p).arb = s.arb := rfl
@[simp] theorem State.setPending_seqr (p : List Instr) (s : State) : (s.setPending p).seqr = s.seqr := rfl
@[simp] theorem State.setPending_supply (p : List Instr) (s : State) : (s.setPending p).supply = s.supply := rfl
@[simp] theorem State.setPending_hold (p : List Instr) (s : State) : (s.setPending p).hold = s.hold := rfl
@[simp] theorem State.setPending_poller (p : List Instr) (s : State) : (s.setPending p).poller = s.poller := rfl
@[simp] theorem State.setPending_devs (p : List Instr) (s : State) : (s.setPending p).devs = s.devs := rfl
@[simp] theorem State.setPending_sched (p : List Instr) (s : State) : (s.setPending p).sched = s.sched := rfl
@[simp] theorem State.setPending_line (p : List Instr) (s : State) : (s.setPending p).line = s.line := rfl
@[simp] theorem State.setPending_link (p : List Instr) (s : State) : (s.setPending p).link = s.link := rfl
@[simp] theorem State.setPending_rainIn (p : List Instr) (s : State) : (s.setPending p).rainIn = s.rainIn := rfl
@[simp] theorem State.setPending_todo (p : List Instr) (s : State) : (s.setPending p).todo = s.todo := rfl
@[simp] theorem State.setPending_freeCount (p : List Instr) (s : State) : (s.setPending p).freeCount = s.freeCount := rfl
@[simp] theorem State.setPending_uptime (p : List Instr) (s : State) : (s.setPending p).uptime = s.uptime := rfl

end Sys2Proof.Machine
end

