-- ==== Sys2Proof/Laws/Frame.lean ====
section
/-!
SUPPORT. What the shared operations leave alone. `State.frame` gathers the state that no operation of chapters 1 to 5 and
7 to 10 changes on its way (the clock, the grid, the holds, the settings, the sizes of the tables); each operation has
one lemma that it keeps the frame.
-/

-- One theorem at a time, which keeps the number of Lean's threads small.
set_option Elab.async false
namespace Sys2Proof.Machine

/-! ## The settings of each block -/

/-- The seven settings of the supply record (R81). -/
@[simp] def Supply.settings (u : Supply) : List Nat :=
  [u.cap, u.maxOpen, u.leadS, u.lagS, u.pulsesPer10L, u.tolerancePct, u.leakThreshold]

/-- What the flow meter has measured (R76). -/
@[simp] def Supply.meter (u : Supply) : Nat × Nat × Option Nat × Bool :=
  (u.windowPulses, u.windowEnd, u.lastFlow, u.lastKept)

/-- The configuration and the map of a zone record (R1). -/
@[simp] def Zone.setup (r : Zone) : ZoneConfig × List Ref × List Ref × ZoneMode :=
  (r.cfg, r.outputs, r.channels, r.mode)

/-- The fields of the line record that LINE_SET and the overcurrents alone write (R161, R163). -/
@[simp] def Line.setup (l : Line) : Bool × Bool × List Nat := (l.quietAllowed, l.latched, l.overcurrents)

/-- The fields of the Link Controller that posting a notice and forming a reply leave alone. -/
@[simp] def Link.setup (l : Link) : Receiver × Bool × Nat × Nat × BitVec 32 × Bool × Nat :=
  (l.receiver, l.inBreak, l.linkErrors, l.overruns, l.filter, l.resetAllPending, l.slots.length)

/-- What the shared operations leave alone. -/
structure Frame where
  pending : List Instr
  timeBase : Nat
  clock : Clock
  grid : Grid
  rainIn : PinLevel
  freeCount : Nat
  hold : HoldUnit
  supply : List Nat
  meter : Nat × Nat × Option Nat × Bool
  zones : List (ZoneConfig × List Ref × List Ref × ZoneMode)
  line : Bool × Bool × List Nat
  link : Receiver × Bool × Nat × Nat × BitVec 32 × Bool × Nat
  entries : Nat
  devices : Nat
  channels : Nat

/-- The frame of a state. -/
def State.frame (s : State) : Frame :=
  { pending := s.pending, timeBase := s.timeBase, clock := s.clock, grid := s.grid, rainIn := s.rainIn,
    freeCount := s.freeCount, hold := s.hold, supply := s.supply.settings, meter := s.supply.meter, zones := s.zones.map Zone.setup,
    line := s.line.setup, link := s.link.setup, entries := s.sched.entries.length, devices := s.devs.table.length,
    channels := s.poller.channels.length }

/-! ## The updates -/

@[simp] theorem frame_mapArb (f : Arbiter → Arbiter) (s : State) : (s.mapArb f).frame = s.frame := rfl
@[simp] theorem frame_mapSeqr (f : Sequencer → Sequencer) (s : State) : (s.mapSeqr f).frame = s.frame := rfl
@[simp] theorem frame_mapTodo (f : Todo → Todo) (s : State) : (s.mapTodo f).frame = s.frame := rfl
@[simp] theorem frame_mapHold (f : HoldUnit → HoldUnit) (s : State) :
    (s.mapHold f).frame = { s.frame with hold := f s.hold } := rfl
@[simp] theorem frame_setPending (p : List Instr) (s : State) :
    (s.setPending p).frame = { s.frame with pending := p } := rfl

@[simp] theorem frame_mapSupply {f : Supply → Supply} {s : State} (h1 : (f s.supply).cap = s.supply.cap)
    (h2 : (f s.supply).maxOpen = s.supply.maxOpen) (h3 : (f s.supply).leadS = s.supply.leadS)
    (h4 : (f s.supply).lagS = s.supply.lagS) (h5 : (f s.supply).pulsesPer10L = s.supply.pulsesPer10L)
    (h6 : (f s.supply).tolerancePct = s.supply.tolerancePct)
    (h7 : (f s.supply).leakThreshold = s.supply.leakThreshold)
    (h8 : (f s.supply).windowPulses = s.supply.windowPulses) (h9 : (f s.supply).windowEnd = s.supply.windowEnd)
    (h10 : (f s.supply).lastFlow = s.supply.lastFlow) (h11 : (f s.supply).lastKept = s.supply.lastKept) :
    (s.mapSupply f).frame = s.frame := by
  simp only [State.frame, State.mapSupply, Supply.settings, Supply.meter, h1, h2, h3, h4, h5, h6, h7, h8, h9, h10, h11]

@[simp] theorem frame_mapLine {f : Line → Line} {s : State} (h1 : (f s.line).quietAllowed = s.line.quietAllowed)
    (h2 : (f s.line).latched = s.line.latched) (h3 : (f s.line).overcurrents = s.line.overcurrents) :
    (s.mapLine f).frame = s.frame := by
  simp only [State.frame, State.mapLine, Line.setup, h1, h2, h3]

@[simp] theorem frame_mapLink {f : Link → Link} {s : State} (h : (f s.link).setup = s.link.setup) :
    (s.mapLink f).frame = s.frame := by
  simp only [State.frame, State.mapLink] at *; rw [h]

@[simp] theorem frame_mapZones {f : List Zone → List Zone} {s : State}
    (h : (f s.zones).map Zone.setup = s.zones.map Zone.setup) : (s.mapZones f).frame = s.frame := by
  simp only [State.frame, State.mapZones] at *; rw [h]

@[simp] theorem frame_mapSched {f : Scheduler → Scheduler} {s : State}
    (h : (f s.sched).entries.length = s.sched.entries.length) : (s.mapSched f).frame = s.frame := by
  simp only [State.frame, State.mapSched] at *; rw [h]

@[simp] theorem frame_mapDevs {f : DeviceManager → DeviceManager} {s : State}
    (h : (f s.devs).table.length = s.devs.table.length) : (s.mapDevs f).frame = s.frame := by
  simp only [State.frame, State.mapDevs] at *; rw [h]

@[simp] theorem frame_mapPoller {f : Poller → Poller} {s : State}
    (h : (f s.poller).channels.length = s.poller.channels.length) : (s.mapPoller f).frame = s.frame := by
  simp only [State.frame, State.mapPoller] at *; rw [h]

theorem frame_forEach {α : Type} {f : α → State → State} (h : ∀ a t, (f a t).frame = t.frame) (l : List α) :
    ∀ s : State, (s.forEach l f).frame = s.frame := by
  induction l with
  | nil => intro s; rfl
  | cons a rest ih => intro s; exact (ih (f a s)).trans (h a s)

/-! ## Records and marks -/

@[simp] theorem frame_modZone (z : Nat) (f : Zone → Zone) (hc : ∀ r, (f r).cfg = r.cfg) (ho : ∀ r, (f r).outputs = r.outputs)
    (hn : ∀ r, (f r).channels = r.channels) (hm : ∀ r, (f r).mode = r.mode) (s : State) : (s.modZone z f).frame = s.frame := by
  unfold State.modZone
  split
  · rfl
  · refine frame_mapZones ?_
    apply List.ext_getElem? 
    intro i
    simp only [List.getElem?_map, List.getElem?_modify]
    split <;> cases s.zones[i]? <;> simp_all

@[simp] theorem frame_modRun (z : Nat) (f : Run → Run) (s : State) : (s.modRun z f).frame = s.frame := by
  unfold State.modRun
  try dsimp only
  first | with_reducible rfl | simp

@[simp] theorem frame_modRecord (z : Nat) (f : ActRecord → ActRecord) (s : State) : (s.modRecord z f).frame = s.frame := by
  unfold State.modRecord
  try dsimp only
  first | with_reducible rfl | simp

@[simp] theorem frame_modDevice (n : Serial) (f : Device → Device) (s : State) : (s.modDevice n f).frame = s.frame := by
  unfold State.modDevice
  try dsimp only
  first | with_reducible rfl | simp

@[simp] theorem frame_modChannel (n : Serial) (ch : Nat) (f : Channel → Channel) (s : State) : (s.modChannel n ch f).frame = s.frame := by
  unfold State.modChannel
  try dsimp only
  first | with_reducible rfl | simp

@[simp] theorem frame_modPoll (n : Serial) (f : PollRec → PollRec) (s : State) : (s.modPoll n f).frame = s.frame := by
  unfold State.modPoll
  try dsimp only
  first | with_reducible rfl | simp

@[simp] theorem frame_modEntry (i : Nat) (f : Entry → Entry) (s : State) : (s.modEntry i f).frame = s.frame := by
  unfold State.modEntry
  try dsimp only
  first | with_reducible rfl | simp

@[simp] theorem frame_wantScan (s : State) : (s.wantScan).frame = s.frame := by
  unfold State.wantScan
  try dsimp only
  first | with_reducible rfl | simp

@[simp] theorem frame_wantQuiet (s : State) : (s.wantQuiet).frame = s.frame := by
  unfold State.wantQuiet
  try dsimp only
  first | with_reducible rfl | simp

@[simp] theorem frame_discardWindow (s : State) : (s.discardWindow).frame = s.frame := by
  unfold State.discardWindow
  try dsimp only
  first | with_reducible rfl | simp

@[simp] theorem frame_wakeLine (s : State) : (s.wakeLine).frame = s.frame := by
  unfold State.wakeLine
  try dsimp only
  (repeat' split) <;> first | with_reducible rfl | simp

/-! ## The Link Controller -/

theorem setup_moveSlot (i : Nat) (l : Link) : (l.moveSlot i).setup = l.setup := by
  unfold Link.moveSlot
  split <;> simp

theorem setup_fillFrom (is : List Nat) : ∀ l : Link, (Link.fillFrom is l).setup = l.setup := by
  induction is with
  | nil => intro l; rfl
  | cons i rest ih =>
    intro l
    unfold Link.fillFrom
    split
    · exact (ih _).trans (setup_moveSlot i l)
    · rfl

theorem setup_takeNotice (l : Link) : l.takeNotice.setup = l.setup := by
  unfold Link.takeNotice
  (repeat' split) <;> rfl

theorem setup_pump (l : Link) : l.pump.setup = l.setup := by
  unfold Link.pump
  (repeat' split)
  · rfl
  · exact setup_fillFrom _ _
  · exact setup_takeNotice l

theorem setup_frameSent (l : Link) : l.frameSent.setup = l.setup := by
  unfold Link.frameSent
  split
  · exact (setup_takeNotice _).trans rfl
  · exact (setup_pump _).trans rfl

/-- A READY at the head of the Notice Queue is the next frame, ahead of every reply (R180). -/
theorem frameSent_ready {cause : ReadyCause} {rest : List Notice} {l : Link} (h : l.notices = .ready cause :: rest) :
    l.frameSent = Link.takeNotice { l with tx := none } := by
  unfold Link.frameSent
  rw [h]

/-- A reset with the transmitter idle: READY is being sent (R183, R179). -/
theorem restart_idle (cause : ReadyCause) :
    Link.restart cause none = { Link.reset with tx := some (Notice.ready cause).frame } := rfl

/-- A reset at a break: the frame in progress goes on, and READY waits behind it (R180, R183). -/
theorem restart_sending (cause : ReadyCause) (f : HostFrame) :
    Link.restart cause (some f) = { Link.reset with tx := some f, notices := [.ready cause] } := rfl

theorem setup_post (n : Notice) (l : Link) : (l.post n).setup = l.setup := by
  unfold Link.post
  (repeat' split) <;> first | rfl | exact (setup_pump _).trans rfl

theorem setup_queueReply (f : HostFrame) (l : Link) : (l.queueReply f).setup = l.setup := by
  exact (setup_pump _).trans rfl

theorem setup_completeSlot (i : Nat) (p : List Byte) (l : Link) : (l.completeSlot i p).setup = l.setup := by
  unfold Link.completeSlot
  (repeat' split)
  · exact (setup_pump _).trans ((setup_fillFrom _ _).trans (by simp))
  · rfl
  · rfl

@[simp] theorem frame_post (n : Notice) (s : State) : (s.post n).frame = s.frame := frame_mapLink (setup_post n s.link)

@[simp] theorem frame_reply (kind tag : Byte) (status : ReplyStatus) (result : List Byte) (s : State) : (s.reply kind tag status result).frame = s.frame := frame_mapLink (setup_queueReply _ s.link)

@[simp] theorem frame_completeSlot (i : Nat) (status : ReplyStatus) (result : List Byte) (s : State) : (s.completeSlot i status result).frame = s.frame := frame_mapLink (setup_completeSlot _ _ s.link)

/-! ## The Field Scheduler -/

@[simp] theorem frame_handOver (i : Nat) (gen : Bool) (req : Request) (s : State) : (s.handOver i gen req).frame = s.frame := by
  unfold State.handOver
  try dsimp only
  (repeat' split) <;> first | with_reducible rfl | simp

@[simp] theorem frame_takeEntry (i : Nat) (req : Request) (s : State) : (s.takeEntry i req).frame = s.frame := by
  unfold State.takeEntry
  try dsimp only
  (repeat' split) <;> first | with_reducible rfl | simp

@[simp] theorem frame_joinWaits (req : Request) (s : State) : (s.joinWaits req).frame = s.frame := by
  unfold State.joinWaits
  try dsimp only
  (repeat' split) <;> first | with_reducible rfl | simp

@[simp] theorem frame_ask (req : Request) (s : State) : (s.ask req).frame = s.frame := by
  unfold State.ask
  try dsimp only
  (repeat' split) <;> first | with_reducible rfl | simp

@[simp] theorem frame_grant (i : Nat) (s : State) : (s.grant i).frame = s.frame := by
  unfold State.grant
  try dsimp only
  (repeat' split) <;> first | with_reducible rfl | simp

@[simp] theorem frame_freeEntry (i : Nat) (s : State) : (s.freeEntry i).frame = s.frame := by
  unfold State.freeEntry
  try dsimp only
  first | with_reducible rfl | simp

@[simp] theorem frame_dropWaits (p : Request → Bool) (s : State) : (s.dropWaits p).frame = s.frame := by
  unfold State.dropWaits
  try dsimp only
  first | with_reducible rfl | simp

/-! ## Zones, supply and actuations -/

@[simp] theorem frame_setZoneState (z : Nat) (st : ZoneState) (s : State) : (s.setZoneState z st).frame = s.frame := by
  unfold State.setZoneState
  split
  · rename_i r hz
    split
    · rfl
    · rw [frame_post]
      unfold State.modZone
      unfold State.zone? at hz
      split
      · rfl
      · rename_i h0
        refine frame_mapZones ?_
        apply List.ext_getElem?
        intro i
        rw [if_neg h0] at hz
        simp only [List.getElem?_map, List.getElem?_modify]
        split
        · rename_i hi
          subst hi
          simp [hz]
        · cases s.zones[i]? <;> rfl
  · rfl

@[simp] theorem frame_faultZone (z : Nat) (reason : FaultReason) (s : State) : (s.faultZone z reason).frame = s.frame := by
  unfold State.faultZone
  try dsimp only
  first | with_reducible rfl | simp

@[simp] theorem frame_reportRun (z : Nat) (s : State) : (s.reportRun z).frame = s.frame := by
  unfold State.reportRun
  try dsimp only
  (repeat' split) <;> first | with_reducible rfl | simp

@[simp] theorem frame_setSupply (st : SupplyState) (timerEnd : Option Nat) (s : State) : (s.setSupply st timerEnd).frame = s.frame := by
  unfold State.setSupply
  try dsimp only
  first | with_reducible rfl | simp

@[simp] theorem frame_supplyLag (s : State) : (s.supplyLag).frame = s.frame := by
  unfold State.supplyLag
  try dsimp only
  (repeat' split) <;> first | with_reducible rfl | simp

@[simp] theorem frame_lastRelease (s : State) : (s.lastRelease).frame = s.frame := by
  unfold State.lastRelease
  try dsimp only
  (repeat' split) <;> first | with_reducible rfl | simp

@[simp] theorem frame_handActuation (op : FieldOp) (z : Nat) (ref : Ref) (s : State) : (s.handActuation op z ref).frame = s.frame := by
  unfold State.handActuation
  try dsimp only
  (repeat' split) <;> first | with_reducible rfl | simp

@[simp] theorem frame_handOpen (z : Nat) (s : State) : (s.handOpen z).frame = s.frame := by
  unfold State.handOpen
  try dsimp only
  (repeat' split) <;> first | with_reducible rfl | simp

@[simp] theorem frame_supplyIsOn (s : State) : (s.supplyIsOn).frame = s.frame := by
  unfold State.supplyIsOn
  refine frame_forEach (fun z t => ?_) _ s
  split <;> simp

@[simp] theorem frame_firstAdmission (s : State) : (s.firstAdmission).frame = s.frame := by
  unfold State.firstAdmission
  try dsimp only
  (repeat' split) <;> first | with_reducible rfl | simp

/-! ## Admission and the queue -/

@[simp] theorem frame_charge (z : Nat) (s : State) : (s.charge z).frame = s.frame := by
  unfold State.charge
  try dsimp only
  (repeat' split) <;> first | with_reducible rfl | simp

@[simp] theorem frame_makeRecord (z : Nat) (s : State) : (s.makeRecord z).frame = s.frame := by
  unfold State.makeRecord
  try dsimp only
  (repeat' split) <;> first | with_reducible rfl | simp

@[simp] theorem frame_admitRun (z : Nat) (s : State) : (s.admitRun z).frame = s.frame := by
  unfold State.admitRun
  try dsimp only
  first | with_reducible rfl | simp

theorem frame_visit (z : Nat) (w : Walk) : (w.visit z).st.frame = w.st.frame := by
  unfold Walk.visit
  (repeat' split) <;> first | with_reducible rfl | simp

theorem frame_walk (zs : List Nat) : ∀ w : Walk, (zs.foldl (fun w z => w.visit z) w).st.frame = w.st.frame := by
  induction zs with
  | nil => intro w; rfl
  | cons z rest ih => intro w; exact (ih _).trans (frame_visit z w)

@[simp] theorem frame_scan (s : State) : (s.scan).frame = s.frame := by
  unfold State.scan
  dsimp only
  split <;> simp [frame_forEach, frame_walk]

@[simp] theorem frame_enqueue (z : Nat) (o : RunOrigin) (len : Nat) (split respect : Bool) (s : State) : (s.enqueue z o len split respect).frame = s.frame := by
  unfold State.enqueue
  try dsimp only
  (repeat' split) <;> first | with_reducible rfl | simp

@[simp] theorem frame_updateEstimate (z : Nat) (s : State) : (s.updateEstimate z).frame = s.frame := by
  unfold State.updateEstimate
  try dsimp only
  (repeat' split) <;> first | with_reducible rfl | simp

@[simp] theorem frame_dueDecision (z : Nat) (s : State) : (s.dueDecision z).frame = s.frame := by
  unfold State.dueDecision
  try dsimp only
  (repeat' split) <;> first | with_reducible rfl | simp

@[simp] theorem frame_recompute (z : Nat) (s : State) : (s.recompute z).frame = s.frame := by
  unfold State.recompute
  try dsimp only
  first | with_reducible rfl | simp

@[simp] theorem frame_reportChannel (n : Serial) (ch : Nat) (s : State) : (s.reportChannel n ch).frame = s.frame := by
  unfold State.reportChannel
  refine frame_forEach (fun z t => ?_) _ s
  (repeat' split) <;> first | with_reducible rfl | simp

@[simp] theorem frame_timedDecision (z : Nat) (s : State) : (s.timedDecision z).frame = s.frame := by
  unfold State.timedDecision
  try dsimp only
  (repeat' split) <;> first | with_reducible rfl | simp

@[simp] theorem frame_rollover (count : Nat) (s : State) : (s.rollover count).frame = s.frame := by
  unfold State.rollover
  rw [frame_forEach frame_timedDecision]
  refine frame_mapZones ?_
  simp

/-! ## Leaving and closing -/

@[simp] theorem frame_leaveOpen (z : Nat) (s : State) : (s.leaveOpen z).frame = s.frame := by
  unfold State.leaveOpen
  split
  · exact frame_mapSupply rfl rfl rfl rfl rfl rfl rfl rfl rfl rfl rfl
  · rfl

@[simp] theorem frame_dropRecord (z : Nat) (s : State) : (s.dropRecord z).frame = s.frame := by
  unfold State.dropRecord
  try dsimp only
  first | with_reducible rfl | simp

@[simp] theorem frame_release (z : Nat) (s : State) : (s.release z).frame = s.frame := by
  unfold State.release
  try dsimp only
  (repeat' split) <;> first | with_reducible rfl | simp

@[simp] theorem frame_zoneOutcome (z : Nat) (o : RunOutcome) (reason : Option FaultReason) (s : State) : (s.zoneOutcome z o reason).frame = s.frame := by
  unfold State.zoneOutcome
  try dsimp only
  (repeat' split) <;> first | with_reducible rfl | simp

@[simp] theorem frame_leaveQueue (z : Nat) (o : RunOutcome) (reason : Option FaultReason) (s : State) : (s.leaveQueue z o reason).frame = s.frame := by
  unfold State.leaveQueue
  try dsimp only
  (repeat' split) <;> first | with_reducible rfl | simp

@[simp] theorem frame_settle (z : Nat) (f : Run → Run) (s : State) : (s.settle z f).frame = s.frame := by
  unfold State.settle
  try dsimp only
  first | with_reducible rfl | simp

@[simp] theorem frame_arriveAt (z : Nat) (d : Dest) (s : State) : (s.arriveAt z d).frame = s.frame := by
  unfold State.arriveAt
  try dsimp only
  (repeat' split) <;> first | with_reducible rfl | simp

@[simp] theorem frame_arrive (z : Nat) (s : State) : (s.arrive z).frame = s.frame := by
  unfold State.arrive
  try dsimp only
  (repeat' split) <;> first | with_reducible rfl | simp

@[simp] theorem frame_handClose (z : Nat) (s : State) : (s.handClose z).frame = s.frame := by
  unfold State.handClose
  try dsimp only
  (repeat' split) <;> first | with_reducible rfl | simp

@[simp] theorem frame_closeDecision (z : Nat) (offer : Option Dest) (s : State) : (s.closeDecision z offer).frame = s.frame := by
  unfold State.closeDecision
  try dsimp only
  (repeat' split) <;> first | with_reducible rfl | simp

@[simp] theorem frame_countOpen (z : Nat) (r : Run) (s : State) : (s.countOpen z r).frame = s.frame := by
  unfold State.countOpen
  try dsimp only
  (repeat' split) <;> first | with_reducible rfl | simp

@[simp] theorem frame_enterOpen (z : Nat) (s : State) : (s.enterOpen z).frame = s.frame := by
  unfold State.enterOpen
  try dsimp only
  (repeat' split) <;> first | with_reducible rfl | simp

@[simp] theorem frame_applyCause (d : Dest) (z : Nat) (s : State) : (s.applyCause d z).frame = s.frame := by
  unfold State.applyCause
  try dsimp only
  (repeat' split) <;> first | with_reducible rfl | simp

@[simp] theorem frame_stopAll (d : Dest) (s : State) : (s.stopAll d).frame = s.frame := frame_forEach (frame_applyCause d) _ s

@[simp] theorem frame_closeAfterOpen (z : Nat) (offer : Option Dest) (s : State) : (s.closeAfterOpen z offer).frame = s.frame := by
  unfold State.closeAfterOpen
  try dsimp only
  (repeat' split) <;> first | with_reducible rfl | simp

@[simp] theorem frame_openFailed (z : Nat) (ref : Ref) (s : State) : (s.openFailed z ref).frame = s.frame := by
  unfold State.openFailed
  try dsimp only
  first | with_reducible rfl | simp

@[simp] theorem frame_withdrawOpen (i : Nat) (s : State) : (s.withdrawOpen i).frame = s.frame := by
  unfold State.withdrawOpen
  try dsimp only
  (repeat' split) <;> first | with_reducible rfl | simp

@[simp] theorem frame_trip (cause : TripCause) (s : State) : (s.trip cause).frame = s.frame := by
  unfold State.trip
  (repeat' split) <;> simp [frame_forEach]

@[simp] theorem frame_abandonActuation (z : Nat) (s : State) : (s.abandonActuation z).frame = s.frame := by
  unfold State.abandonActuation
  try dsimp only
  (repeat' split) <;> first | with_reducible rfl | simp

@[simp] theorem frame_stuckLeave (z : Nat) (s : State) : (s.stuckLeave z).frame = s.frame := by
  simp [State.stuckLeave]

@[simp] theorem frame_stuckTrip (s : State) : s.stuckTrip.frame = s.frame := by
  simp [State.stuckTrip]

@[simp] theorem frame_stuckPath (z : Nat) (s : State) : (s.stuckPath z).frame = s.frame := by
  unfold State.stuckPath
  split <;> simp

@[simp] theorem frame_loseLine (z : Nat) (s : State) : (s.loseLine z).frame = s.frame := by
  unfold State.loseLine
  try dsimp only
  (repeat' split) <;> first | with_reducible rfl | simp

@[simp] theorem frame_loseLineRuns (s : State) : (s.loseLineRuns).frame = s.frame := frame_forEach frame_loseLine _ s

@[simp] theorem frame_returnLine (s : State) : (s.returnLine).frame = s.frame := by
  unfold State.returnLine
  try dsimp only
  first | with_reducible rfl | simp

@[simp] theorem frame_releaseHeld (s : State) : (s.releaseHeld).frame = s.frame := by
  unfold State.releaseHeld
  try dsimp only
  first | with_reducible rfl | simp

@[simp] theorem frame_holdEnd (s : State) : (s.holdEnd).frame = s.frame := by
  unfold State.holdEnd
  try dsimp only
  first | with_reducible rfl | simp

@[simp] theorem frame_holdStart (everyOrigin : Bool) (s : State) : (s.holdStart everyOrigin).frame = s.frame := by
  unfold State.holdStart
  refine frame_forEach (fun z t => ?_) _ s
  (repeat' split) <;> first | with_reducible rfl | simp

/-! ## The Device Manager and the Poller -/

@[simp] theorem frame_rederive (z : Nat) (s : State) : (s.rederive z).frame = s.frame := by
  unfold State.rederive
  try dsimp only
  (repeat' split) <;> first | with_reducible rfl | simp

@[simp] theorem frame_rederiveAll (s : State) : (s.rederiveAll).frame = s.frame := frame_forEach frame_rederive _ s

@[simp] theorem frame_giveUp (n : Serial) (s : State) : (s.giveUp n).frame = s.frame := by
  unfold State.giveUp
  try dsimp only
  (repeat' split) <;> first | with_reducible rfl | simp

@[simp] theorem frame_unplace (n : Serial) (s : State) : (s.unplace n).frame = s.frame := by
  unfold State.unplace
  try dsimp only
  first | with_reducible rfl | simp

@[simp] theorem frame_makePoll (n : Serial) (s : State) : (s.makePoll n).frame = s.frame := by
  unfold State.makePoll
  try dsimp only
  (repeat' split) <;> first | with_reducible rfl | simp

@[simp] theorem frame_removePoll (n : Serial) (s : State) : (s.removePoll n).frame = s.frame := by
  unfold State.removePoll
  try dsimp only
  first | with_reducible rfl | simp

@[simp] theorem frame_freeChannel (n : Serial) (ch : Nat) (s : State) : (s.freeChannel n ch).frame = s.frame := by
  unfold State.freeChannel
  try dsimp only
  first | with_reducible rfl | simp

@[simp] theorem frame_freeAbove (n : Serial) (count : Nat) (s : State) : (s.freeAbove n count).frame = s.frame := frame_forEach (fun ch t => frame_freeChannel n ch t) _ s

@[simp] theorem frame_takePoints (n : Serial) (payload : List Byte) (ch : Nat) (s : State) : (s.takePoints n payload ch).frame = s.frame := by
  unfold State.takePoints
  try dsimp only
  (repeat' split) <;> first | with_reducible rfl | simp

@[simp] theorem frame_deviceEvent (event : DeviceEvent) (n : Serial) (s : State) : (s.deviceEvent event n).frame = s.frame := by
  unfold State.deviceEvent
  try dsimp only
  first | with_reducible rfl | simp

@[simp] theorem frame_givePoints (n : Serial) (count : Nat) (payload : List Byte) (s : State) : (s.givePoints n count payload).frame = s.frame := by
  unfold State.givePoints
  dsimp only
  (repeat' split) <;> simp [frame_forEach]

@[simp] theorem frame_takeUp (n : Serial) (count : Nat) (payload : List Byte) (s : State) : (s.takeUp n count payload).frame = s.frame := by
  simp [State.takeUp]

@[simp] theorem frame_lostRun (z : Nat) (s : State) : (s.lostRun z).frame = s.frame := by
  unfold State.lostRun
  split <;> simp

@[simp] theorem frame_lostRuns (zones : List Nat) (s : State) : (s.lostRuns zones).frame = s.frame := by
  simp [State.lostRuns, frame_forEach]

@[simp] theorem frame_zoneLost (n : Serial) (z : Nat) (s : State) : (s.zoneLost n z).frame = s.frame := by
  unfold State.zoneLost
  try dsimp only
  (repeat' split) <;> first | with_reducible rfl | simp

@[simp] theorem frame_missLoss (n : Serial) (s : State) : (s.missLoss n).frame = s.frame := by
  unfold State.missLoss
  (repeat' split) <;> simp [frame_forEach]

@[simp] theorem frame_addMiss (n : Serial) (s : State) : (s.addMiss n).frame = s.frame := by
  unfold State.addMiss
  try dsimp only
  (repeat' split) <;> first | with_reducible rfl | simp

@[simp] theorem frame_clearMiss (n : Serial) (s : State) : (s.clearMiss n).frame = s.frame := by
  unfold State.clearMiss
  try dsimp only
  first | with_reducible rfl | simp

@[simp] theorem frame_postMismatch (n : Serial) (d : Identity) (s : State) : (s.postMismatch n d).frame = s.frame := by
  unfold State.postMismatch
  try dsimp only
  first | with_reducible rfl | simp

@[simp] theorem frame_recordIdentity (n : Serial) (d : Identity) (s : State) : (s.recordIdentity n d).frame = s.frame := by
  unfold State.recordIdentity
  try dsimp only
  (repeat' split) <;> first | with_reducible rfl | simp

@[simp] theorem frame_becomeReady (n : Serial) (s : State) : (s.becomeReady n).frame = s.frame := by
  unfold State.becomeReady
  try dsimp only
  (repeat' split) <;> first | with_reducible rfl | simp

@[simp] theorem frame_createDevice (n : Serial) (enrolled : Bool) (interval : Nat) (s : State) : (s.createDevice n enrolled interval).frame = s.frame := by
  unfold State.createDevice
  try dsimp only
  (repeat' split) <;> first | with_reducible rfl | simp

@[simp] theorem frame_removeDevice (n : Serial) (s : State) : (s.removeDevice n).frame = s.frame := by
  unfold State.removeDevice
  try dsimp only
  first | with_reducible rfl | simp

@[simp] theorem frame_answerAborted (slot : Option Nat) (s : State) : (s.answerAborted slot).frame = s.frame := by
  unfold State.answerAborted
  try dsimp only
  (repeat' split) <;> first | with_reducible rfl | simp

@[simp] theorem frame_abandonEntry (n : Serial) (i : Nat) (s : State) : (s.abandonEntry n i).frame = s.frame := by
  unfold State.abandonEntry
  try dsimp only
  (repeat' split) <;> first | with_reducible rfl | simp

@[simp] theorem frame_abandon (n : Serial) (s : State) : (s.abandon n).frame = s.frame := by
  unfold State.abandon
  simp [frame_forEach]

@[simp] theorem frame_displace (n : Serial) (s : State) : (s.displace n).frame = s.frame := by
  simp [State.displace]

@[simp] theorem frame_startPlacing (n : Serial) (s : State) : (s.startPlacing n).frame = s.frame := by
  unfold State.startPlacing
  try dsimp only
  (repeat' split) <;> first | with_reducible rfl | simp

@[simp] theorem frame_overflow (n : Serial) (s : State) : (s.overflow n).frame = s.frame := by
  unfold State.overflow
  try dsimp only
  (repeat' split) <;> first | with_reducible rfl | simp

theorem frame_makeRoom {s t : State} (h : s.makeRoom = some t) : t.frame = s.frame := by
  unfold State.makeRoom at h
  split at h
  · simp_all
  · cases hv : s.victim with
    | none => simp [hv] at h
    | some d =>
      rw [hv] at h
      simp only [Option.map_some, Option.some.injEq] at h
      rw [← h]
      simp

@[simp] theorem frame_place (n : Serial) (s : State) : (s.place n).frame = s.frame := by
  unfold State.place
  (repeat' split) <;> first
    | with_reducible rfl
    | (simp; done)
    | (rename_i h; rw [frame_startPlacing, frame_createDevice, frame_makeRoom h])

@[simp] theorem frame_windowDone (s : State) : (s.windowDone).frame = s.frame := by
  unfold State.windowDone
  try dsimp only
  (repeat' split) <;> first | with_reducible rfl | simp

/-! ## Completions -/

@[simp] theorem frame_openOk (z : Nat) (ref : Ref) (s : State) : (s.openOk z ref).frame = s.frame := by
  unfold State.openOk
  try dsimp only
  (repeat' split) <;> first | with_reducible rfl | simp

@[simp] theorem frame_coilFault (z : Nat) (ref : Ref) (reason : FaultReason) (s : State) : (s.coilFault z ref reason).frame = s.frame := by
  unfold State.coilFault
  try dsimp only
  first | with_reducible rfl | simp

@[simp] theorem frame_closeOk (z : Nat) (ref : Ref) (s : State) : (s.closeOk z ref).frame = s.frame := by
  unfold State.closeOk
  try dsimp only
  first | with_reducible rfl | simp

@[simp] theorem frame_valveDone (i : Nat) (e : Entry) (c : Completion) (s : State) : (s.valveDone i e c).frame = s.frame := by
  unfold State.valveDone
  try dsimp only
  (repeat' split) <;> first | with_reducible rfl | simp

@[simp] theorem frame_storeReadings (n : Serial) (f : Channel → Channel) (s : State) : (s.storeReadings n f).frame = s.frame := frame_forEach (fun ch t => frame_modChannel n ch f t) _ s

@[simp] theorem frame_reportReadings (n : Serial) (s : State) : (s.reportReadings n).frame = s.frame := frame_forEach (fun ch t => frame_reportChannel n ch t) _ s

@[simp] theorem frame_takeReadings (n : Serial) (c : Completion) (s : State) : (s.takeReadings n c).frame = s.frame := by
  unfold State.takeReadings
  try dsimp only
  (repeat' split) <;> first | with_reducible rfl | simp

@[simp] theorem frame_nextPoll (n : Serial) (s : State) : (s.nextPoll n).frame = s.frame := by
  unfold State.nextPoll
  try dsimp only
  first | with_reducible rfl | simp

@[simp] theorem frame_pollDone (n : Serial) (c : Completion) (s : State) : (s.pollDone n c).frame = s.frame := by
  unfold State.pollDone
  try dsimp only
  (repeat' split) <;> first | with_reducible rfl | simp

@[simp] theorem frame_countAnswer (n : Serial) (c : Completion) (s : State) : (s.countAnswer n c).frame = s.frame := by
  unfold State.countAnswer
  try dsimp only
  (repeat' split) <;> first | with_reducible rfl | simp

@[simp] theorem frame_assignDone (n : Serial) (c : Completion) (s : State) : (s.assignDone n c).frame = s.frame := by
  unfold State.assignDone
  try dsimp only
  (repeat' split) <;> first | with_reducible rfl | simp

@[simp] theorem frame_releaseDone (addr : Nat) (c : Completion) (s : State) : (s.releaseDone addr c).frame = s.frame := by
  unfold State.releaseDone
  try dsimp only
  (repeat' split) <;> first | with_reducible rfl | simp

@[simp] theorem frame_identifyDone (n : Serial) (c : Completion) (s : State) : (s.identifyDone n c).frame = s.frame := by
  unfold State.identifyDone
  try dsimp only
  (repeat' split) <;> first | with_reducible rfl | simp

@[simp] theorem frame_readCalDone (n : Serial) (c : Completion) (s : State) : (s.readCalDone n c).frame = s.frame := by
  unfold State.readCalDone
  try dsimp only
  (repeat' split) <;> first | with_reducible rfl | simp

@[simp] theorem frame_discoveryDone (e : Entry) (c : Completion) (s : State) : (s.discoveryDone e c).frame = s.frame := by
  unfold State.discoveryDone
  try dsimp only
  (repeat' split) <;> first | with_reducible rfl | simp

@[simp] theorem frame_answerFailure (slot : Nat) (c : Completion) (s : State) : (s.answerFailure slot c).frame = s.frame := by
  unfold State.answerFailure
  try dsimp only
  (repeat' split) <;> first | with_reducible rfl | simp

@[simp] theorem frame_probeReadDone (slot : Nat) (n : Serial) (ch : Nat) (c : Completion) (s : State) : (s.probeReadDone slot n ch c).frame = s.frame := by
  unfold State.probeReadDone
  try dsimp only
  (repeat' split) <;> first | with_reducible rfl | simp

@[simp] theorem frame_recordQuery (n : Serial) (d : Identity) (s : State) : (s.recordQuery n d).frame = s.frame := by
  unfold State.recordQuery
  try dsimp only
  (repeat' split) <;> first | with_reducible rfl | simp

@[simp] theorem frame_queryReadCal (slot : Nat) (n : Serial) (addr : Nat) (d : Identity) (s : State) : (s.queryReadCal slot n addr d).frame = s.frame := by
  unfold State.queryReadCal
  rw [frame_ask]
  exact frame_mapLink (by simp)

@[simp] theorem frame_queryIdentified (slot : Nat) (e : Entry) (d : Identity) (s : State) : (s.queryIdentified slot e d).frame = s.frame := by
  unfold State.queryIdentified
  try dsimp only
  (repeat' split) <;> first | with_reducible rfl | simp

@[simp] theorem frame_recordPoints (n : Serial) (d : Identity) (payload : List Byte) (s : State) : (s.recordPoints n d payload).frame = s.frame := by
  unfold State.recordPoints
  try dsimp only
  (repeat' split) <;> first | with_reducible rfl | simp

@[simp] theorem frame_queryDone (slot : Nat) (found : Option Identity) (e : Entry) (c : Completion) (s : State) : (s.queryDone slot found e c).frame = s.frame := by
  unfold State.queryDone
  try dsimp only
  (repeat' split) <;> first | with_reducible rfl | simp

@[simp] theorem frame_linkDone (e : Entry) (c : Completion) (s : State) : (s.linkDone e c).frame = s.frame := by
  unfold State.linkDone
  try dsimp only
  (repeat' split) <;> first | with_reducible rfl | simp

@[simp] theorem frame_handOff (i : Nat) (e : Entry) (c : Completion) (s : State) : (s.handOff i e c).frame = s.frame := by
  unfold State.handOff
  try dsimp only
  (repeat' split) <;> first | with_reducible rfl | simp

@[simp] theorem frame_complete (i : Nat) (c : Completion) (s : State) : (s.complete i c).frame = s.frame := by
  unfold State.complete
  try dsimp only
  (repeat' split) <;> first | with_reducible rfl | simp

/-! ## The line -/

@[simp] theorem frame_enterLine (st : LineState) (stateEnd : Option Nat) (cause : LineCause) (s : State) : (s.enterLine st stateEnd cause).frame = s.frame := by
  unfold State.enterLine
  try dsimp only
  first | with_reducible rfl | simp

@[simp] theorem frame_enterRising (cause : LineCause) (s : State) : (s.enterRising cause).frame = s.frame := by
  unfold State.enterRising
  try dsimp only
  first | with_reducible rfl | simp

@[simp] theorem frame_windowAfterOn (s : State) : (s.windowAfterOn).frame = s.frame := by
  unfold State.windowAfterOn
  try dsimp only
  (repeat' split) <;> first | with_reducible rfl | simp

@[simp] theorem frame_abortEntry (i : Nat) (s : State) : (s.abortEntry i).frame = s.frame := by
  unfold State.abortEntry
  try dsimp only
  (repeat' split) <;> first | with_reducible rfl | simp

@[simp] theorem frame_abortAll (s : State) : (s.abortAll).frame = s.frame := by
  unfold State.abortAll
  simp [frame_forEach]

@[simp] theorem frame_loseDevices (s : State) : (s.loseDevices).frame = s.frame := by
  unfold State.loseDevices
  rw [frame_rederiveAll, frame_wantQuiet, frame_mapPoller rfl, frame_mapDevs]
  simp

@[simp] theorem frame_loseNeighbours (s : State) : (s.loseNeighbours).frame = s.frame := by
  unfold State.loseNeighbours
  try dsimp only
  first | with_reducible rfl | simp

@[simp] theorem frame_losePower (st : LineState) (stateEnd : Option Nat) (cause : LineCause) (s : State) : (s.losePower st stateEnd cause).frame = s.frame := by
  unfold State.losePower
  try dsimp only
  first | with_reducible rfl | simp

@[simp] theorem frame_quietTest (s : State) : (s.quietTest).frame = s.frame := by
  unfold State.quietTest
  try dsimp only
  (repeat' split) <;> first | with_reducible rfl | simp

@[simp] theorem frame_startFrame (i : Nat) (s : State) : (s.startFrame i).frame = s.frame := by
  unfold State.startFrame
  try dsimp only
  first | with_reducible rfl | simp

@[simp] theorem frame_serveLine (s : State) : (s.serveLine).frame = s.frame := by
  unfold State.serveLine
  try dsimp only
  (repeat' split) <;> first | with_reducible rfl | simp

@[simp] theorem frame_finish (s : State) : (s.finish).frame = s.frame := by
  unfold State.finish
  try dsimp only
  (repeat' split) <;> first | with_reducible rfl | simp

@[simp] theorem frame_endTurn (s : State) : (s.endTurn).frame = s.frame := by
  unfold State.endTurn
  try dsimp only
  first | with_reducible rfl | simp

@[simp] theorem frame_stopHeard (s : State) : (s.stopHeard).frame = s.frame := by
  unfold State.stopHeard
  try dsimp only
  first | with_reducible rfl | simp

@[simp] theorem frame_resumeWait (s : State) : (s.resumeWait).frame = s.frame := by
  unfold State.resumeWait
  try dsimp only
  first | with_reducible rfl | simp

@[simp] theorem frame_endAttempt (i : Nat) (bad : Bool) (s : State) : (s.endAttempt i bad).frame = s.frame := by
  unfold State.endAttempt
  try dsimp only
  (repeat' split) <;> first | with_reducible rfl | simp

@[simp] theorem frame_inviteDone (i : Nat) (result : AnnounceResult) (s : State) : (s.inviteDone i result).frame = s.frame := by
  unfold State.inviteDone
  try dsimp only
  (repeat' split) <;> first | with_reducible rfl | simp

end Sys2Proof.Machine
end

