-- ==== Sys2Proof/Laws/Kept.lean ====
section
/-!
SUPPORT. The kinds of update that the shared operations make, and one lemma per operation: a property that each kind of
update keeps is kept by the operation. The bounds of the queues, a reply that has been given, the flow budget and a trip
are such properties (Laws/Bounds.lean).
-/

-- One theorem at a time, which keeps the number of Lean's threads small.
set_option Elab.async false
namespace Sys2Proof.Machine

/-- A property that every kind of update the shared operations make keeps. -/
structure Kept (P : State → Prop) : Prop where
  clock : ∀ f s, P s → P (s.mapClock f)
  grid : ∀ f s, P s → P (s.mapGrid f)
  zones : ∀ f s, P s → P (s.mapZones f)
  seqr : ∀ f s, P s → P (s.mapSeqr f)
  hold : ∀ f s, P s → P (s.mapHold f)
  poller : ∀ f s, P s → P (s.mapPoller f)
  devs : ∀ f s, P s → P (s.mapDevs f)
  sched : ∀ f s, P s → P (s.mapSched f)
  line : ∀ f s, P s → P (s.mapLine f)
  todo : ∀ f s, P s → P (s.mapTodo f)
  /-- An update of the queue that leaves the budget alone. -/
  arb : ∀ f s, (f s.arb).flowSum = s.arb.flowSum → (f s.arb).openCount = s.arb.openCount → P s → P (s.mapArb f)
  /-- The charge of a run that fits (R32, R35). -/
  charge : ∀ z s, s.fits z = true → P s →
    P (s.mapArb fun a => { a with flowSum := a.flowSum + s.nominal z, openCount := a.openCount + 1 })
  /-- The release of a share (R32). -/
  unshare : ∀ k s, P s → P (s.mapArb fun a => { a with flowSum := a.flowSum - k, openCount := a.openCount - 1 })
  /-- An update of the supply record that leaves cap, max_open, the state and the trip cause alone. -/
  supply : ∀ f s, (f s.supply).cap = s.supply.cap → (f s.supply).maxOpen = s.supply.maxOpen →
    (f s.supply).state = s.supply.state → (f s.supply).tripCause = s.supply.tripCause → P s → P (s.mapSupply f)
  /-- A change between the states other than TRIPPED (R69 to R72). -/
  setSupply : ∀ st e s, s.supply.state ≠ .tripped → st ≠ .tripped → P s → P (s.setSupply st e)
  /-- The trip of a supply that is not TRIPPED (R73). -/
  trip : ∀ c s, s.supply.state ≠ .tripped → P s →
    P (s.mapSupply fun u =>
      { u with state := .tripped, tripCause := some c, timerEnd := none, highCount := 0, lowCount := 0,
               leakCount := 0, lowAlarmed := false, windowDiscard := true })
  post : ∀ n s, P s → P (s.post n)
  completeSlot : ∀ i st r s, P s → P (s.completeSlot i st r)
  slots : ∀ (f : List Slot → List Slot) s, P s → P (s.mapLink fun l => { l with slots := f l.slots })

/-- A state has a property; the name under which the lemmas below are found. -/
def State.Has (P : State → Prop) (s : State) : Prop := P s

variable {P : State → Prop}

/-! ## The updates -/

@[simp] theorem has_mapClock (hP : Kept P) (f : Clock → Clock) (s : State) (h : s.Has P) : (s.mapClock f).Has P :=
  hP.clock f s h
@[simp] theorem has_mapGrid (hP : Kept P) (f : Grid → Grid) (s : State) (h : s.Has P) : (s.mapGrid f).Has P :=
  hP.grid f s h
@[simp] theorem has_mapZones (hP : Kept P) (f : List Zone → List Zone) (s : State) (h : s.Has P) :
    (s.mapZones f).Has P := hP.zones f s h
@[simp] theorem has_mapSeqr (hP : Kept P) (f : Sequencer → Sequencer) (s : State) (h : s.Has P) :
    (s.mapSeqr f).Has P := hP.seqr f s h
@[simp] theorem has_mapHold (hP : Kept P) (f : HoldUnit → HoldUnit) (s : State) (h : s.Has P) : (s.mapHold f).Has P :=
  hP.hold f s h
@[simp] theorem has_mapPoller (hP : Kept P) (f : Poller → Poller) (s : State) (h : s.Has P) : (s.mapPoller f).Has P :=
  hP.poller f s h
@[simp] theorem has_mapDevs (hP : Kept P) (f : DeviceManager → DeviceManager) (s : State) (h : s.Has P) :
    (s.mapDevs f).Has P := hP.devs f s h
@[simp] theorem has_mapSched (hP : Kept P) (f : Scheduler → Scheduler) (s : State) (h : s.Has P) :
    (s.mapSched f).Has P := hP.sched f s h
@[simp] theorem has_mapLine (hP : Kept P) (f : Line → Line) (s : State) (h : s.Has P) : (s.mapLine f).Has P :=
  hP.line f s h
@[simp] theorem has_mapTodo (hP : Kept P) (f : Todo → Todo) (s : State) (h : s.Has P) : (s.mapTodo f).Has P :=
  hP.todo f s h
@[simp] theorem has_mapArb (hP : Kept P) (f : Arbiter → Arbiter) (s : State) (h : s.Has P)
    (h1 : (f s.arb).flowSum = s.arb.flowSum) (h2 : (f s.arb).openCount = s.arb.openCount) : (s.mapArb f).Has P :=
  hP.arb f s h1 h2 h
@[simp] theorem has_unshare (hP : Kept P) (k : Nat) (s : State) (h : s.Has P) :
    (s.mapArb fun a => { a with flowSum := a.flowSum - k, openCount := a.openCount - 1 }).Has P := hP.unshare k s h
@[simp] theorem has_mapSupply (hP : Kept P) (f : Supply → Supply) (s : State) (h : s.Has P)
    (h1 : (f s.supply).cap = s.supply.cap) (h2 : (f s.supply).maxOpen = s.supply.maxOpen)
    (h3 : (f s.supply).state = s.supply.state) (h4 : (f s.supply).tripCause = s.supply.tripCause) :
    (s.mapSupply f).Has P := hP.supply f s h1 h2 h3 h4 h
@[simp] theorem has_setSupply (hP : Kept P) (st : SupplyState) (e : Option Nat) (s : State) (h : s.Has P)
    (h1 : s.supply.state ≠ .tripped) (h2 : st ≠ .tripped) : (s.setSupply st e).Has P := hP.setSupply st e s h1 h2 h
@[simp] theorem has_post (hP : Kept P) (n : Notice) (s : State) (h : s.Has P) : (s.post n).Has P := hP.post n s h
@[simp] theorem has_completeSlot (hP : Kept P) (i : Nat) (st : ReplyStatus) (r : List Byte) (s : State) (h : s.Has P) :
    (s.completeSlot i st r).Has P := hP.completeSlot i st r s h

theorem has_forEach {α : Type} {f : α → State → State} (hf : ∀ a t, t.Has P → (f a t).Has P) (l : List α) :
    ∀ s : State, s.Has P → (s.forEach l f).Has P := by
  induction l with
  | nil => intro s h; exact h
  | cons a rest ih => intro s h; exact ih _ (hf a s h)

/-! ## Records and marks -/

@[simp] theorem has_modZone (hP : Kept P) (z : Nat) (f : Zone → Zone) (s : State) (h : s.Has P) : (s.modZone z f).Has P := by
  unfold State.modZone
  split
  · exact h
  · exact hP.zones _ s h

@[simp] theorem has_modRun (hP : Kept P) (z : Nat) (f : Run → Run) (s : State) (h : s.Has P) : (s.modRun z f).Has P := by
  unfold State.modRun
  try dsimp only
  simp (maxDischargeDepth := 12) [h, hP]

@[simp] theorem has_modRecord (hP : Kept P) (z : Nat) (f : ActRecord → ActRecord) (s : State) (h : s.Has P) : (s.modRecord z f).Has P := by
  unfold State.modRecord
  try dsimp only
  simp (maxDischargeDepth := 12) [h, hP]

@[simp] theorem has_modDevice (hP : Kept P) (n : Serial) (f : Device → Device) (s : State) (h : s.Has P) : (s.modDevice n f).Has P := by
  unfold State.modDevice
  try dsimp only
  simp (maxDischargeDepth := 12) [h, hP]

@[simp] theorem has_modChannel (hP : Kept P) (n : Serial) (ch : Nat) (f : Channel → Channel) (s : State) (h : s.Has P) : (s.modChannel n ch f).Has P := by
  unfold State.modChannel
  try dsimp only
  simp (maxDischargeDepth := 12) [h, hP]

@[simp] theorem has_modPoll (hP : Kept P) (n : Serial) (f : PollRec → PollRec) (s : State) (h : s.Has P) : (s.modPoll n f).Has P := by
  unfold State.modPoll
  try dsimp only
  simp (maxDischargeDepth := 12) [h, hP]

@[simp] theorem has_modEntry (hP : Kept P) (i : Nat) (f : Entry → Entry) (s : State) (h : s.Has P) : (s.modEntry i f).Has P := by
  unfold State.modEntry
  try dsimp only
  simp (maxDischargeDepth := 12) [h, hP]

@[simp] theorem has_wantScan (hP : Kept P) (s : State) (h : s.Has P) : (s.wantScan).Has P := by
  unfold State.wantScan
  try dsimp only
  simp (maxDischargeDepth := 12) [h, hP]

@[simp] theorem has_wantQuiet (hP : Kept P) (s : State) (h : s.Has P) : (s.wantQuiet).Has P := by
  unfold State.wantQuiet
  try dsimp only
  simp (maxDischargeDepth := 12) [h, hP]

@[simp] theorem has_discardWindow (hP : Kept P) (s : State) (h : s.Has P) : (s.discardWindow).Has P := by
  unfold State.discardWindow
  try dsimp only
  simp (maxDischargeDepth := 12) [h, hP]

@[simp] theorem has_wakeLine (hP : Kept P) (s : State) (h : s.Has P) : (s.wakeLine).Has P := by
  unfold State.wakeLine
  try dsimp only
  (repeat' split) <;> simp (maxDischargeDepth := 12) [h, hP]

/-! ## The Link Controller -/

/-! ## The Field Scheduler -/

@[simp] theorem has_handOver (hP : Kept P) (i : Nat) (gen : Bool) (req : Request) (s : State) (h : s.Has P) : (s.handOver i gen req).Has P := by
  unfold State.handOver
  try dsimp only
  (repeat' split) <;> simp (maxDischargeDepth := 12) [h, hP]

@[simp] theorem has_takeEntry (hP : Kept P) (i : Nat) (req : Request) (s : State) (h : s.Has P) : (s.takeEntry i req).Has P := by
  unfold State.takeEntry
  try dsimp only
  (repeat' split) <;> simp (maxDischargeDepth := 12) [h, hP]

@[simp] theorem has_joinWaits (hP : Kept P) (req : Request) (s : State) (h : s.Has P) : (s.joinWaits req).Has P := by
  unfold State.joinWaits
  try dsimp only
  (repeat' split) <;> simp (maxDischargeDepth := 12) [h, hP]

@[simp] theorem has_ask (hP : Kept P) (req : Request) (s : State) (h : s.Has P) : (s.ask req).Has P := by
  unfold State.ask
  try dsimp only
  (repeat' split) <;> simp (maxDischargeDepth := 12) [h, hP]

@[simp] theorem has_grant (hP : Kept P) (i : Nat) (s : State) (h : s.Has P) : (s.grant i).Has P := by
  unfold State.grant
  try dsimp only
  (repeat' split) <;> simp (maxDischargeDepth := 12) [h, hP]

@[simp] theorem has_freeEntry (hP : Kept P) (i : Nat) (s : State) (h : s.Has P) : (s.freeEntry i).Has P := by
  unfold State.freeEntry
  try dsimp only
  simp (maxDischargeDepth := 12) [h, hP]

@[simp] theorem has_dropWaits (hP : Kept P) (p : Request → Bool) (s : State) (h : s.Has P) : (s.dropWaits p).Has P := by
  unfold State.dropWaits
  try dsimp only
  simp (maxDischargeDepth := 12) [h, hP]

/-! ## Zones, supply and actuations -/

@[simp] theorem has_setZoneState (hP : Kept P) (z : Nat) (st : ZoneState) (s : State) (h : s.Has P) : (s.setZoneState z st).Has P := by
  unfold State.setZoneState
  try dsimp only
  (repeat' split) <;> simp (maxDischargeDepth := 12) [h, hP]

@[simp] theorem has_faultZone (hP : Kept P) (z : Nat) (reason : FaultReason) (s : State) (h : s.Has P) : (s.faultZone z reason).Has P := by
  unfold State.faultZone
  try dsimp only
  simp (maxDischargeDepth := 12) [h, hP]

@[simp] theorem has_reportRun (hP : Kept P) (z : Nat) (s : State) (h : s.Has P) : (s.reportRun z).Has P := by
  unfold State.reportRun
  try dsimp only
  (repeat' split) <;> simp (maxDischargeDepth := 12) [h, hP]

@[simp] theorem has_supplyLag (hP : Kept P) (s : State) (h : s.Has P) (h1 : s.supply.state ≠ .tripped) : (s.supplyLag).Has P := by
  unfold State.supplyLag
  split <;> simp [h, h1, hP]

@[simp] theorem has_lastRelease (hP : Kept P) (s : State) (h : s.Has P) : (s.lastRelease).Has P := by
  unfold State.lastRelease
  split
  · rename_i h1; exact has_supplyLag hP s h (by simp [h1])
  · exact h

@[simp] theorem has_handActuation (hP : Kept P) (op : FieldOp) (z : Nat) (ref : Ref) (s : State) (h : s.Has P) : (s.handActuation op z ref).Has P := by
  unfold State.handActuation
  try dsimp only
  (repeat' split) <;> simp (maxDischargeDepth := 12) [h, hP]

@[simp] theorem has_handOpen (hP : Kept P) (z : Nat) (s : State) (h : s.Has P) : (s.handOpen z).Has P := by
  unfold State.handOpen
  try dsimp only
  (repeat' split) <;> simp (maxDischargeDepth := 12) [h, hP]

@[simp] theorem has_supplyIsOn (hP : Kept P) (s : State) (h : s.Has P) : (s.supplyIsOn).Has P := by
  unfold State.supplyIsOn
  refine has_forEach (fun z t ht => ?_) _ s h
  split <;> simp [ht, hP]

@[simp] theorem has_firstAdmission (hP : Kept P) (s : State) (h : s.Has P) : (s.firstAdmission).Has P := by
  unfold State.firstAdmission
  have hs := fun hn : s.supply.state ≠ .tripped => has_supplyIsOn hP _ (has_setSupply hP .on none s h hn (by simp))
  split
  · rename_i h1
    split
    · exact has_setSupply hP _ _ s h (by simp [h1]) (by simp)
    · exact hs (by simp [h1])
  · rename_i h1; exact hs (by simp [h1])
  · exact h
  · exact h
  · exact h

/-! ## Admission and the queue -/

@[simp] theorem has_charge (hP : Kept P) (z : Nat) (s : State) (h : s.Has P) (hf : s.fits z = true) : (s.charge z).Has P := by
  unfold State.charge
  dsimp only
  have hc : (s.mapArb fun a => { a with flowSum := a.flowSum + s.nominal z, openCount := a.openCount + 1 }).Has P :=
    hP.charge z s hf h
  split
  · exact has_firstAdmission hP _ hc
  · exact hc

@[simp] theorem has_makeRecord (hP : Kept P) (z : Nat) (s : State) (h : s.Has P) : (s.makeRecord z).Has P := by
  unfold State.makeRecord
  try dsimp only
  (repeat' split) <;> simp (maxDischargeDepth := 12) [h, hP]

@[simp] theorem has_admitRun (hP : Kept P) (z : Nat) (s : State) (h : s.Has P) (hf : s.fits z = true) : (s.admitRun z).Has P := by
  unfold State.admitRun
  refine has_handOpen hP _ _ (has_makeRecord hP _ _ (has_reportRun hP _ _ (has_charge hP _ _ ?_ hf)))
  simp [h, hP]

theorem has_visit (hP : Kept P) (z : Nat) (w : Walk) (h : w.st.Has P) : (w.visit z).st.Has P := by
  unfold Walk.visit
  (repeat' split) <;> first | exact h | exact has_admitRun hP z w.st h (by assumption)

theorem has_walk (hP : Kept P) (zs : List Nat) :
    ∀ w : Walk, w.st.Has P → (zs.foldl (fun w z => w.visit z) w).st.Has P := by
  induction zs with
  | nil => intro w h; exact h
  | cons z rest ih => intro w h; exact ih _ (has_visit hP z w h)

@[simp] theorem has_scan (hP : Kept P) (s : State) (h : s.Has P) : (s.scan).Has P := by
  unfold State.scan
  dsimp only
  have hw := has_walk hP s.runZones
    ({ st := s, noted := [], skipped := [], wake := false, stopped := false } : Walk) h
  have hf := has_forEach (fun z t ht => has_modRun hP z Run.skip t ht) (s.runZones.foldl (fun w z => w.visit z)
    ({ st := s, noted := [], skipped := [], wake := false, stopped := false } : Walk)).skipped _ hw
  split
  · exact has_wakeLine hP _ (hP.todo _ _ hf)
  · exact hP.todo _ _ hf

@[simp] theorem has_enqueue (hP : Kept P) (z : Nat) (o : RunOrigin) (len : Nat) (split respect : Bool) (s : State) (h : s.Has P) : (s.enqueue z o len split respect).Has P := by
  unfold State.enqueue
  dsimp only
  have ha : (s.mapArb (Arbiter.enqueue (s.newRun z o len split respect))).Has P :=
    hP.arb _ _ (by unfold Arbiter.enqueue; dsimp only; split <;> rfl) (by unfold Arbiter.enqueue; dsimp only; split <;> rfl) h
  split
  · exact has_scan hP _ (has_reportRun hP _ _ ha)
  · exact has_reportRun hP _ _ ha

@[simp] theorem has_updateEstimate (hP : Kept P) (z : Nat) (s : State) (h : s.Has P) : (s.updateEstimate z).Has P := by
  unfold State.updateEstimate
  try dsimp only
  (repeat' split) <;> simp (maxDischargeDepth := 12) [h, hP]

@[simp] theorem has_dueDecision (hP : Kept P) (z : Nat) (s : State) (h : s.Has P) : (s.dueDecision z).Has P := by
  unfold State.dueDecision
  try dsimp only
  (repeat' split) <;> simp (maxDischargeDepth := 12) [h, hP]

@[simp] theorem has_recompute (hP : Kept P) (z : Nat) (s : State) (h : s.Has P) : (s.recompute z).Has P := by
  unfold State.recompute
  try dsimp only
  simp (maxDischargeDepth := 12) [h, hP]

@[simp] theorem has_reportChannel (hP : Kept P) (n : Serial) (ch : Nat) (s : State) (h : s.Has P) : (s.reportChannel n ch).Has P := by
  unfold State.reportChannel
  refine has_forEach (fun z t ht => ?_) _ s h
  (repeat' split) <;> simp [ht, hP]

@[simp] theorem has_timedDecision (hP : Kept P) (z : Nat) (s : State) (h : s.Has P) : (s.timedDecision z).Has P := by
  unfold State.timedDecision
  try dsimp only
  (repeat' split) <;> simp (maxDischargeDepth := 12) [h, hP]

@[simp] theorem has_rollover (hP : Kept P) (count : Nat) (s : State) (h : s.Has P) : (s.rollover count).Has P := by
  unfold State.rollover
  exact has_forEach (fun z t ht => has_timedDecision hP z t ht) _ _ (hP.zones _ s h)

/-! ## Leaving and closing -/

@[simp] theorem has_leaveOpen (hP : Kept P) (z : Nat) (s : State) (h : s.Has P) : (s.leaveOpen z).Has P := by
  unfold State.leaveOpen
  split
  · exact hP.supply _ _ rfl rfl rfl rfl (hP.arb _ _ rfl rfl h)
  · exact h

@[simp] theorem has_dropRecord (hP : Kept P) (z : Nat) (s : State) (h : s.Has P) : (s.dropRecord z).Has P := by
  unfold State.dropRecord
  try dsimp only
  simp (maxDischargeDepth := 12) [h, hP]

@[simp] theorem has_release (hP : Kept P) (z : Nat) (s : State) (h : s.Has P) : (s.release z).Has P := by
  unfold State.release
  try dsimp only
  (repeat' split) <;> simp (maxDischargeDepth := 12) [h, hP]

@[simp] theorem has_zoneOutcome (hP : Kept P) (z : Nat) (o : RunOutcome) (reason : Option FaultReason) (s : State) (h : s.Has P) : (s.zoneOutcome z o reason).Has P := by
  unfold State.zoneOutcome
  try dsimp only
  (repeat' split) <;> simp (maxDischargeDepth := 12) [h, hP]

@[simp] theorem has_leaveQueue (hP : Kept P) (z : Nat) (o : RunOutcome) (reason : Option FaultReason) (s : State) (h : s.Has P) : (s.leaveQueue z o reason).Has P := by
  unfold State.leaveQueue
  try dsimp only
  (repeat' split) <;> simp (maxDischargeDepth := 12) [h, hP]

@[simp] theorem has_settle (hP : Kept P) (z : Nat) (f : Run → Run) (s : State) (h : s.Has P) : (s.settle z f).Has P := by
  unfold State.settle
  try dsimp only
  simp (maxDischargeDepth := 12) [h, hP]

@[simp] theorem has_arriveAt (hP : Kept P) (z : Nat) (d : Dest) (s : State) (h : s.Has P) : (s.arriveAt z d).Has P := by
  unfold State.arriveAt
  try dsimp only
  (repeat' split) <;> simp (maxDischargeDepth := 12) [h, hP]

@[simp] theorem has_arrive (hP : Kept P) (z : Nat) (s : State) (h : s.Has P) : (s.arrive z).Has P := by
  unfold State.arrive
  try dsimp only
  (repeat' split) <;> simp (maxDischargeDepth := 12) [h, hP]

@[simp] theorem has_handClose (hP : Kept P) (z : Nat) (s : State) (h : s.Has P) : (s.handClose z).Has P := by
  unfold State.handClose
  try dsimp only
  (repeat' split) <;> simp (maxDischargeDepth := 12) [h, hP]

@[simp] theorem has_closeDecision (hP : Kept P) (z : Nat) (offer : Option Dest) (s : State) (h : s.Has P) : (s.closeDecision z offer).Has P := by
  unfold State.closeDecision
  try dsimp only
  (repeat' split) <;> simp (maxDischargeDepth := 12) [h, hP]

@[simp] theorem has_countOpen (hP : Kept P) (z : Nat) (r : Run) (s : State) (h : s.Has P) : (s.countOpen z r).Has P := by
  unfold State.countOpen
  try dsimp only
  (repeat' split) <;> simp (maxDischargeDepth := 12) [h, hP]

@[simp] theorem has_enterOpen (hP : Kept P) (z : Nat) (s : State) (h : s.Has P) : (s.enterOpen z).Has P := by
  unfold State.enterOpen
  try dsimp only
  (repeat' split) <;> simp (maxDischargeDepth := 12) [h, hP]

@[simp] theorem has_applyCause (hP : Kept P) (d : Dest) (z : Nat) (s : State) (h : s.Has P) : (s.applyCause d z).Has P := by
  unfold State.applyCause
  try dsimp only
  (repeat' split) <;> simp (maxDischargeDepth := 12) [h, hP]

@[simp] theorem has_stopAll (hP : Kept P) (d : Dest) (s : State) (h : s.Has P) : (s.stopAll d).Has P := has_forEach (fun z t ht => has_applyCause hP d z t ht) _ s h

@[simp] theorem has_closeAfterOpen (hP : Kept P) (z : Nat) (offer : Option Dest) (s : State) (h : s.Has P) : (s.closeAfterOpen z offer).Has P := by
  unfold State.closeAfterOpen
  try dsimp only
  (repeat' split) <;> simp (maxDischargeDepth := 12) [h, hP]

@[simp] theorem has_openFailed (hP : Kept P) (z : Nat) (ref : Ref) (s : State) (h : s.Has P) : (s.openFailed z ref).Has P := by
  unfold State.openFailed
  try dsimp only
  simp (maxDischargeDepth := 12) [h, hP]

@[simp] theorem has_withdrawOpen (hP : Kept P) (i : Nat) (s : State) (h : s.Has P) : (s.withdrawOpen i).Has P := by
  unfold State.withdrawOpen
  try dsimp only
  (repeat' split) <;> simp (maxDischargeDepth := 12) [h, hP]

@[simp] theorem has_trip (hP : Kept P) (cause : TripCause) (s : State) (h : s.Has P) : (s.trip cause).Has P := by
  unfold State.trip
  dsimp only
  split
  · simp [h, hP]
  · rename_i h1
    have ht := has_stopAll hP .tripped _ (has_post hP (.supplyEvent .trip (some cause) (some s.supply.state)) _
      (hP.trip cause s h1 h))
    exact has_forEach (fun i t ht => has_withdrawOpen hP i t ht) _ _ ht

@[simp] theorem has_abandonActuation (hP : Kept P) (z : Nat) (s : State) (h : s.Has P) : (s.abandonActuation z).Has P := by
  unfold State.abandonActuation
  try dsimp only
  (repeat' split) <;> simp (maxDischargeDepth := 12) [h, hP]

@[simp] theorem has_stuckLeave (hP : Kept P) (z : Nat) (s : State) (h : s.Has P) : (s.stuckLeave z).Has P := by
  simp (maxDischargeDepth := 12) [State.stuckLeave, h, hP]

@[simp] theorem has_stuckTrip (hP : Kept P) (s : State) (h : s.Has P) : s.stuckTrip.Has P :=
  has_ask hP _ _ (has_ask hP _ _ (has_ask hP _ _ (has_trip hP _ _ h)))

@[simp] theorem has_stuckPath (hP : Kept P) (z : Nat) (s : State) (h : s.Has P) : (s.stuckPath z).Has P := by
  unfold State.stuckPath
  split <;> simp [h, hP]

@[simp] theorem has_loseLine (hP : Kept P) (z : Nat) (s : State) (h : s.Has P) : (s.loseLine z).Has P := by
  unfold State.loseLine
  try dsimp only
  (repeat' split) <;> simp (maxDischargeDepth := 12) [h, hP]

@[simp] theorem has_loseLineRuns (hP : Kept P) (s : State) (h : s.Has P) : (s.loseLineRuns).Has P := has_forEach (fun z t ht => has_loseLine hP z t ht) _ s h

@[simp] theorem has_returnLine (hP : Kept P) (s : State) (h : s.Has P) : (s.returnLine).Has P := by
  unfold State.returnLine
  try dsimp only
  simp (maxDischargeDepth := 12) [h, hP]

@[simp] theorem has_releaseHeld (hP : Kept P) (s : State) (h : s.Has P) : (s.releaseHeld).Has P := by
  unfold State.releaseHeld
  try dsimp only
  simp (maxDischargeDepth := 12) [h, hP]

@[simp] theorem has_holdEnd (hP : Kept P) (s : State) (h : s.Has P) : (s.holdEnd).Has P := by
  unfold State.holdEnd
  try dsimp only
  simp (maxDischargeDepth := 12) [h, hP]

@[simp] theorem has_holdStart (hP : Kept P) (everyOrigin : Bool) (s : State) (h : s.Has P) : (s.holdStart everyOrigin).Has P := by
  unfold State.holdStart
  refine has_forEach (fun z t ht => ?_) _ s h
  (repeat' split) <;> simp [ht, hP]

/-! ## The Device Manager and the Poller -/

@[simp] theorem has_rederive (hP : Kept P) (z : Nat) (s : State) (h : s.Has P) : (s.rederive z).Has P := by
  unfold State.rederive
  try dsimp only
  (repeat' split) <;> simp (maxDischargeDepth := 12) [h, hP]

@[simp] theorem has_rederiveAll (hP : Kept P) (s : State) (h : s.Has P) : (s.rederiveAll).Has P := has_forEach (fun z t ht => has_rederive hP z t ht) _ s h

@[simp] theorem has_giveUp (hP : Kept P) (n : Serial) (s : State) (h : s.Has P) : (s.giveUp n).Has P := by
  unfold State.giveUp
  try dsimp only
  (repeat' split) <;> simp (maxDischargeDepth := 12) [h, hP]

@[simp] theorem has_unplace (hP : Kept P) (n : Serial) (s : State) (h : s.Has P) : (s.unplace n).Has P := by
  unfold State.unplace
  try dsimp only
  simp (maxDischargeDepth := 12) [h, hP]

@[simp] theorem has_makePoll (hP : Kept P) (n : Serial) (s : State) (h : s.Has P) : (s.makePoll n).Has P := by
  unfold State.makePoll
  try dsimp only
  (repeat' split) <;> simp (maxDischargeDepth := 12) [h, hP]

@[simp] theorem has_removePoll (hP : Kept P) (n : Serial) (s : State) (h : s.Has P) : (s.removePoll n).Has P := by
  unfold State.removePoll
  try dsimp only
  simp (maxDischargeDepth := 12) [h, hP]

@[simp] theorem has_freeChannel (hP : Kept P) (n : Serial) (ch : Nat) (s : State) (h : s.Has P) : (s.freeChannel n ch).Has P := by
  unfold State.freeChannel
  try dsimp only
  simp (maxDischargeDepth := 12) [h, hP]

@[simp] theorem has_freeAbove (hP : Kept P) (n : Serial) (count : Nat) (s : State) (h : s.Has P) : (s.freeAbove n count).Has P := has_forEach (fun ch t ht => has_freeChannel hP n ch t ht) _ s h

@[simp] theorem has_takePoints (hP : Kept P) (n : Serial) (payload : List Byte) (ch : Nat) (s : State) (h : s.Has P) : (s.takePoints n payload ch).Has P := by
  unfold State.takePoints
  try dsimp only
  (repeat' split) <;> simp (maxDischargeDepth := 12) [h, hP]

@[simp] theorem has_deviceEvent (hP : Kept P) (event : DeviceEvent) (n : Serial) (s : State) (h : s.Has P) : (s.deviceEvent event n).Has P := by
  unfold State.deviceEvent
  try dsimp only
  simp (maxDischargeDepth := 12) [h, hP]

@[simp] theorem has_givePoints (hP : Kept P) (n : Serial) (count : Nat) (payload : List Byte) (s : State) (h : s.Has P) : (s.givePoints n count payload).Has P := by
  unfold State.givePoints
  dsimp only
  have hf := has_forEach (fun ch t ht => has_takePoints hP n payload ch t ht) (List.range' 1 count) s h
  split
  · exact has_post hP _ _ hf
  · exact hf

@[simp] theorem has_takeUp (hP : Kept P) (n : Serial) (count : Nat) (payload : List Byte) (s : State) (h : s.Has P) : (s.takeUp n count payload).Has P :=
  has_givePoints hP _ _ _ _ (has_freeAbove hP n count s h)

@[simp] theorem has_lostRun (hP : Kept P) (z : Nat) (s : State) (h : s.Has P) : (s.lostRun z).Has P := by
  unfold State.lostRun
  split <;> simp [h, hP]

@[simp] theorem has_lostRuns (hP : Kept P) (zones : List Nat) (s : State) (h : s.Has P) : (s.lostRuns zones).Has P :=
  has_forEach (fun _ t ht => has_stuckTrip hP t ht) _ _ (has_forEach (fun z t ht => has_lostRun hP z t ht) _ _ h)

@[simp] theorem has_zoneLost (hP : Kept P) (n : Serial) (z : Nat) (s : State) (h : s.Has P) : (s.zoneLost n z).Has P := by
  unfold State.zoneLost
  try dsimp only
  (repeat' split) <;> simp (maxDischargeDepth := 12) [h, hP]

@[simp] theorem has_missLoss (hP : Kept P) (n : Serial) (s : State) (h : s.Has P) : (s.missLoss n).Has P := by
  unfold State.missLoss
  split
  · exact has_forEach (fun z t ht => has_zoneLost hP n z t ht) _ _ (has_lostRuns hP _ _ (has_removePoll hP _ _
      (has_rederiveAll hP _ (has_post hP _ _ (has_giveUp hP _ _ (has_modDevice hP _ _ _ h))))))
  · exact h

@[simp] theorem has_addMiss (hP : Kept P) (n : Serial) (s : State) (h : s.Has P) : (s.addMiss n).Has P := by
  unfold State.addMiss
  try dsimp only
  (repeat' split) <;> simp (maxDischargeDepth := 12) [h, hP]

@[simp] theorem has_clearMiss (hP : Kept P) (n : Serial) (s : State) (h : s.Has P) : (s.clearMiss n).Has P := by
  unfold State.clearMiss
  try dsimp only
  simp (maxDischargeDepth := 12) [h, hP]

@[simp] theorem has_postMismatch (hP : Kept P) (n : Serial) (d : Identity) (s : State) (h : s.Has P) : (s.postMismatch n d).Has P := by
  unfold State.postMismatch
  try dsimp only
  simp (maxDischargeDepth := 12) [h, hP]

@[simp] theorem has_recordIdentity (hP : Kept P) (n : Serial) (d : Identity) (s : State) (h : s.Has P) : (s.recordIdentity n d).Has P := by
  unfold State.recordIdentity
  try dsimp only
  (repeat' split) <;> simp (maxDischargeDepth := 12) [h, hP]

@[simp] theorem has_becomeReady (hP : Kept P) (n : Serial) (s : State) (h : s.Has P) : (s.becomeReady n).Has P := by
  unfold State.becomeReady
  try dsimp only
  (repeat' split) <;> simp (maxDischargeDepth := 12) [h, hP]

@[simp] theorem has_createDevice (hP : Kept P) (n : Serial) (enrolled : Bool) (interval : Nat) (s : State) (h : s.Has P) : (s.createDevice n enrolled interval).Has P := by
  unfold State.createDevice
  try dsimp only
  (repeat' split) <;> simp (maxDischargeDepth := 12) [h, hP]

@[simp] theorem has_removeDevice (hP : Kept P) (n : Serial) (s : State) (h : s.Has P) : (s.removeDevice n).Has P := by
  unfold State.removeDevice
  try dsimp only
  simp (maxDischargeDepth := 12) [h, hP]

@[simp] theorem has_answerAborted (hP : Kept P) (slot : Option Nat) (s : State) (h : s.Has P) : (s.answerAborted slot).Has P := by
  unfold State.answerAborted
  try dsimp only
  (repeat' split) <;> simp (maxDischargeDepth := 12) [h, hP]

@[simp] theorem has_abandonEntry (hP : Kept P) (n : Serial) (i : Nat) (s : State) (h : s.Has P) : (s.abandonEntry n i).Has P := by
  unfold State.abandonEntry
  try dsimp only
  (repeat' split) <;> simp (maxDischargeDepth := 12) [h, hP]

@[simp] theorem has_abandon (hP : Kept P) (n : Serial) (s : State) (h : s.Has P) : (s.abandon n).Has P := by
  unfold State.abandon
  exact has_forEach (fun i t ht => has_abandonEntry hP n i t ht) _ _
    (has_forEach (fun i t ht => has_answerAborted hP i t ht) _ _ (has_dropWaits hP _ _ h))

@[simp] theorem has_displace (hP : Kept P) (n : Serial) (s : State) (h : s.Has P) : (s.displace n).Has P := by
  unfold State.displace
  exact has_lostRuns hP _ _ (has_removePoll hP _ _ (has_rederiveAll hP _
    (has_modDevice hP _ _ _ (has_abandon hP _ _ h))))

@[simp] theorem has_startPlacing (hP : Kept P) (n : Serial) (s : State) (h : s.Has P) : (s.startPlacing n).Has P := by
  unfold State.startPlacing
  try dsimp only
  (repeat' split) <;> simp (maxDischargeDepth := 12) [h, hP]

@[simp] theorem has_overflow (hP : Kept P) (n : Serial) (s : State) (h : s.Has P) : (s.overflow n).Has P := by
  unfold State.overflow
  try dsimp only
  (repeat' split) <;> simp (maxDischargeDepth := 12) [h, hP]

theorem has_makeRoom (hP : Kept P) {s t : State} (h : s.Has P) (hm : s.makeRoom = some t) : t.Has P := by
  unfold State.makeRoom at hm
  split at hm
  · simp_all
  · cases hv : s.victim with
    | none => simp [hv] at hm
    | some d =>
      rw [hv] at hm
      simp only [Option.map_some, Option.some.injEq] at hm
      rw [← hm]
      simp [h, hP]

@[simp] theorem has_place (hP : Kept P) (n : Serial) (s : State) (h : s.Has P) : (s.place n).Has P := by
  unfold State.place
  (repeat' split) <;> first
    | (simp [h, hP]; done)
    | (rename_i hm; exact has_startPlacing hP _ _ (has_createDevice hP _ _ _ _ (has_makeRoom hP h hm)))

@[simp] theorem has_windowDone (hP : Kept P) (s : State) (h : s.Has P) : (s.windowDone).Has P := by
  unfold State.windowDone
  try dsimp only
  (repeat' split) <;> simp (maxDischargeDepth := 12) [h, hP]

/-! ## Completions -/

@[simp] theorem has_openOk (hP : Kept P) (z : Nat) (ref : Ref) (s : State) (h : s.Has P) : (s.openOk z ref).Has P := by
  unfold State.openOk
  try dsimp only
  (repeat' split) <;> simp (maxDischargeDepth := 12) [h, hP]

@[simp] theorem has_coilFault (hP : Kept P) (z : Nat) (ref : Ref) (reason : FaultReason) (s : State) (h : s.Has P) : (s.coilFault z ref reason).Has P := by
  unfold State.coilFault
  try dsimp only
  simp (maxDischargeDepth := 12) [h, hP]

@[simp] theorem has_closeOk (hP : Kept P) (z : Nat) (ref : Ref) (s : State) (h : s.Has P) : (s.closeOk z ref).Has P := by
  unfold State.closeOk
  try dsimp only
  simp (maxDischargeDepth := 12) [h, hP]

@[simp] theorem has_valveDone (hP : Kept P) (i : Nat) (e : Entry) (c : Completion) (s : State) (h : s.Has P) : (s.valveDone i e c).Has P := by
  unfold State.valveDone
  try dsimp only
  (repeat' split) <;> simp (maxDischargeDepth := 12) [h, hP]

@[simp] theorem has_storeReadings (hP : Kept P) (n : Serial) (f : Channel → Channel) (s : State) (h : s.Has P) : (s.storeReadings n f).Has P := has_forEach (fun ch t ht => has_modChannel hP n ch f t ht) _ s h

@[simp] theorem has_reportReadings (hP : Kept P) (n : Serial) (s : State) (h : s.Has P) : (s.reportReadings n).Has P := has_forEach (fun ch t ht => has_reportChannel hP n ch t ht) _ s h

@[simp] theorem has_takeReadings (hP : Kept P) (n : Serial) (c : Completion) (s : State) (h : s.Has P) : (s.takeReadings n c).Has P := by
  unfold State.takeReadings
  try dsimp only
  (repeat' split) <;> simp (maxDischargeDepth := 12) [h, hP]

@[simp] theorem has_nextPoll (hP : Kept P) (n : Serial) (s : State) (h : s.Has P) : (s.nextPoll n).Has P := by
  unfold State.nextPoll
  try dsimp only
  simp (maxDischargeDepth := 12) [h, hP]

@[simp] theorem has_pollDone (hP : Kept P) (n : Serial) (c : Completion) (s : State) (h : s.Has P) : (s.pollDone n c).Has P := by
  unfold State.pollDone
  try dsimp only
  (repeat' split) <;> simp (maxDischargeDepth := 12) [h, hP]

@[simp] theorem has_countAnswer (hP : Kept P) (n : Serial) (c : Completion) (s : State) (h : s.Has P) : (s.countAnswer n c).Has P := by
  unfold State.countAnswer
  try dsimp only
  (repeat' split) <;> simp (maxDischargeDepth := 12) [h, hP]

@[simp] theorem has_assignDone (hP : Kept P) (n : Serial) (c : Completion) (s : State) (h : s.Has P) : (s.assignDone n c).Has P := by
  unfold State.assignDone
  try dsimp only
  (repeat' split) <;> simp (maxDischargeDepth := 12) [h, hP]

@[simp] theorem has_releaseDone (hP : Kept P) (addr : Nat) (c : Completion) (s : State) (h : s.Has P) : (s.releaseDone addr c).Has P := by
  unfold State.releaseDone
  try dsimp only
  (repeat' split) <;> simp (maxDischargeDepth := 12) [h, hP]

@[simp] theorem has_identifyDone (hP : Kept P) (n : Serial) (c : Completion) (s : State) (h : s.Has P) : (s.identifyDone n c).Has P := by
  unfold State.identifyDone
  try dsimp only
  (repeat' split) <;> simp (maxDischargeDepth := 12) [h, hP]

@[simp] theorem has_readCalDone (hP : Kept P) (n : Serial) (c : Completion) (s : State) (h : s.Has P) : (s.readCalDone n c).Has P := by
  unfold State.readCalDone
  try dsimp only
  (repeat' split) <;> simp (maxDischargeDepth := 12) [h, hP]

@[simp] theorem has_discoveryDone (hP : Kept P) (e : Entry) (c : Completion) (s : State) (h : s.Has P) : (s.discoveryDone e c).Has P := by
  unfold State.discoveryDone
  try dsimp only
  (repeat' split) <;> simp (maxDischargeDepth := 12) [h, hP]

@[simp] theorem has_answerFailure (hP : Kept P) (slot : Nat) (c : Completion) (s : State) (h : s.Has P) : (s.answerFailure slot c).Has P := by
  unfold State.answerFailure
  try dsimp only
  (repeat' split) <;> simp (maxDischargeDepth := 12) [h, hP]

@[simp] theorem has_probeReadDone (hP : Kept P) (slot : Nat) (n : Serial) (ch : Nat) (c : Completion) (s : State) (h : s.Has P) : (s.probeReadDone slot n ch c).Has P := by
  unfold State.probeReadDone
  try dsimp only
  (repeat' split) <;> simp (maxDischargeDepth := 12) [h, hP]

@[simp] theorem has_recordQuery (hP : Kept P) (n : Serial) (d : Identity) (s : State) (h : s.Has P) : (s.recordQuery n d).Has P := by
  unfold State.recordQuery
  try dsimp only
  (repeat' split) <;> simp (maxDischargeDepth := 12) [h, hP]

@[simp] theorem has_queryReadCal (hP : Kept P) (slot : Nat) (n : Serial) (addr : Nat) (d : Identity) (s : State) (h : s.Has P) : (s.queryReadCal slot n addr d).Has P := has_ask hP _ _ (hP.slots (fun l => l.modify slot fun x => { x with found := some d }) s h)

@[simp] theorem has_queryIdentified (hP : Kept P) (slot : Nat) (e : Entry) (d : Identity) (s : State) (h : s.Has P) : (s.queryIdentified slot e d).Has P := by
  unfold State.queryIdentified
  try dsimp only
  (repeat' split) <;> simp (maxDischargeDepth := 12) [h, hP]

@[simp] theorem has_recordPoints (hP : Kept P) (n : Serial) (d : Identity) (payload : List Byte) (s : State) (h : s.Has P) : (s.recordPoints n d payload).Has P := by
  unfold State.recordPoints
  try dsimp only
  (repeat' split) <;> simp (maxDischargeDepth := 12) [h, hP]

@[simp] theorem has_queryDone (hP : Kept P) (slot : Nat) (found : Option Identity) (e : Entry) (c : Completion) (s : State) (h : s.Has P) : (s.queryDone slot found e c).Has P := by
  unfold State.queryDone
  try dsimp only
  (repeat' split) <;> simp (maxDischargeDepth := 12) [h, hP]

@[simp] theorem has_linkDone (hP : Kept P) (e : Entry) (c : Completion) (s : State) (h : s.Has P) : (s.linkDone e c).Has P := by
  unfold State.linkDone
  try dsimp only
  (repeat' split) <;> simp (maxDischargeDepth := 12) [h, hP]

@[simp] theorem has_handOff (hP : Kept P) (i : Nat) (e : Entry) (c : Completion) (s : State) (h : s.Has P) : (s.handOff i e c).Has P := by
  unfold State.handOff
  try dsimp only
  (repeat' split) <;> simp (maxDischargeDepth := 12) [h, hP]

@[simp] theorem has_complete (hP : Kept P) (i : Nat) (c : Completion) (s : State) (h : s.Has P) : (s.complete i c).Has P := by
  unfold State.complete
  try dsimp only
  (repeat' split) <;> simp (maxDischargeDepth := 12) [h, hP]

/-! ## The line -/

@[simp] theorem has_enterLine (hP : Kept P) (st : LineState) (stateEnd : Option Nat) (cause : LineCause) (s : State) (h : s.Has P) : (s.enterLine st stateEnd cause).Has P := by
  unfold State.enterLine
  try dsimp only
  simp (maxDischargeDepth := 12) [h, hP]

@[simp] theorem has_enterRising (hP : Kept P) (cause : LineCause) (s : State) (h : s.Has P) : (s.enterRising cause).Has P := by
  unfold State.enterRising
  try dsimp only
  simp (maxDischargeDepth := 12) [h, hP]

@[simp] theorem has_windowAfterOn (hP : Kept P) (s : State) (h : s.Has P) : (s.windowAfterOn).Has P := by
  unfold State.windowAfterOn
  try dsimp only
  (repeat' split) <;> simp (maxDischargeDepth := 12) [h, hP]

@[simp] theorem has_abortEntry (hP : Kept P) (i : Nat) (s : State) (h : s.Has P) : (s.abortEntry i).Has P := by
  unfold State.abortEntry
  try dsimp only
  (repeat' split) <;> simp (maxDischargeDepth := 12) [h, hP]

@[simp] theorem has_abortAll (hP : Kept P) (s : State) (h : s.Has P) : (s.abortAll).Has P := by
  unfold State.abortAll
  dsimp only
  refine has_forEach (fun i t ht => has_answerAborted hP i t ht) _ _ ?_
  exact hP.sched _ _ (has_forEach (fun i t ht => has_abortEntry hP i t ht) _ _ h)

@[simp] theorem has_loseDevices (hP : Kept P) (s : State) (h : s.Has P) : (s.loseDevices).Has P := by
  unfold State.loseDevices
  exact has_rederiveAll hP _ (has_wantQuiet hP _ (hP.poller _ _ (hP.devs _ _ h)))

@[simp] theorem has_loseNeighbours (hP : Kept P) (s : State) (h : s.Has P) : (s.loseNeighbours).Has P := by
  unfold State.loseNeighbours
  try dsimp only
  simp (maxDischargeDepth := 12) [h, hP]

@[simp] theorem has_losePower (hP : Kept P) (st : LineState) (stateEnd : Option Nat) (cause : LineCause) (s : State) (h : s.Has P) : (s.losePower st stateEnd cause).Has P := by
  unfold State.losePower
  try dsimp only
  simp (maxDischargeDepth := 12) [h, hP]

@[simp] theorem has_quietTest (hP : Kept P) (s : State) (h : s.Has P) : (s.quietTest).Has P := by
  unfold State.quietTest
  try dsimp only
  (repeat' split) <;> simp (maxDischargeDepth := 12) [h, hP]

@[simp] theorem has_startFrame (hP : Kept P) (i : Nat) (s : State) (h : s.Has P) : (s.startFrame i).Has P := by
  unfold State.startFrame
  try dsimp only
  simp (maxDischargeDepth := 12) [h, hP]

@[simp] theorem has_serveLine (hP : Kept P) (s : State) (h : s.Has P) : (s.serveLine).Has P := by
  unfold State.serveLine
  try dsimp only
  (repeat' split) <;> simp (maxDischargeDepth := 12) [h, hP]

@[simp] theorem has_finish (hP : Kept P) (s : State) (h : s.Has P) : (s.finish).Has P := by
  unfold State.finish
  try dsimp only
  (repeat' split) <;> simp (maxDischargeDepth := 12) [h, hP]

@[simp] theorem has_endTurn (hP : Kept P) (s : State) (h : s.Has P) : (s.endTurn).Has P := by
  unfold State.endTurn
  try dsimp only
  simp (maxDischargeDepth := 12) [h, hP]

@[simp] theorem has_stopHeard (hP : Kept P) (s : State) (h : s.Has P) : (s.stopHeard).Has P := by
  unfold State.stopHeard
  try dsimp only
  simp (maxDischargeDepth := 12) [h, hP]

@[simp] theorem has_resumeWait (hP : Kept P) (s : State) (h : s.Has P) : (s.resumeWait).Has P := by
  unfold State.resumeWait
  try dsimp only
  simp (maxDischargeDepth := 12) [h, hP]

@[simp] theorem has_endAttempt (hP : Kept P) (i : Nat) (bad : Bool) (s : State) (h : s.Has P) : (s.endAttempt i bad).Has P := by
  unfold State.endAttempt
  try dsimp only
  (repeat' split) <;> simp (maxDischargeDepth := 12) [h, hP]

@[simp] theorem has_inviteDone (hP : Kept P) (i : Nat) (result : AnnounceResult) (s : State) (h : s.Has P) : (s.inviteDone i result).Has P := by
  unfold State.inviteDone
  try dsimp only
  (repeat' split) <;> simp (maxDischargeDepth := 12) [h, hP]

/-! ## Holds -/

@[simp] theorem has_postRain (hP : Kept P) (event : HoldEvent) (minutes : Option Nat) (s : State) (h : s.Has P) : (s.postRain event minutes).Has P := by
  unfold State.postRain
  try dsimp only
  simp (maxDischargeDepth := 12) [h, hP]

@[simp] theorem has_rainAdd (hP : Kept P) (added : RainSources) (s : State) (h : s.Has P) : (s.rainAdd added).Has P := by
  unfold State.rainAdd
  try dsimp only
  (repeat' split) <;> simp (maxDischargeDepth := 12) [h, hP]

@[simp] theorem has_rainEnd (hP : Kept P) (s : State) (h : s.Has P) : (s.rainEnd).Has P := by
  unfold State.rainEnd
  try dsimp only
  simp (maxDischargeDepth := 12) [h, hP]

@[simp] theorem has_rainRemove (hP : Kept P) (gone : RainSources) (s : State) (h : s.Has P) : (s.rainRemove gone).Has P := by
  unfold State.rainRemove
  try dsimp only
  (repeat' split) <;> simp (maxDischargeDepth := 12) [h, hP]

@[simp] theorem has_windStart (hP : Kept P) (s : State) (h : s.Has P) : (s.windStart).Has P := by
  unfold State.windStart
  try dsimp only
  simp (maxDischargeDepth := 12) [h, hP]

@[simp] theorem has_windEnd (hP : Kept P) (s : State) (h : s.Has P) : (s.windEnd).Has P := by
  unfold State.windEnd
  try dsimp only
  (repeat' split) <;> simp (maxDischargeDepth := 12) [h, hP]

@[simp] theorem has_freezeStart (hP : Kept P) (s : State) (h : s.Has P) : (s.freezeStart).Has P := by
  unfold State.freezeStart
  try dsimp only
  simp (maxDischargeDepth := 12) [h, hP]

@[simp] theorem has_freezeEnd (hP : Kept P) (s : State) (h : s.Has P) : (s.freezeEnd).Has P := by
  unfold State.freezeEnd
  try dsimp only
  simp (maxDischargeDepth := 12) [h, hP]

@[simp] theorem has_manualEnd (hP : Kept P) (s : State) (h : s.Has P) : (s.manualEnd).Has P := by
  unfold State.manualEnd
  try dsimp only
  (repeat' split) <;> simp (maxDischargeDepth := 12) [h, hP]

@[simp] theorem has_startsFound (hP : Kept P) (s : State) (h : s.Has P) : (s.startsFound).Has P := by
  unfold State.startsFound
  try dsimp only
  (repeat' split) <;> simp (maxDischargeDepth := 12) [h, hP]

@[simp] theorem has_endsFound (hP : Kept P) (s : State) (h : s.Has P) : (s.endsFound).Has P := by
  unfold State.endsFound
  try dsimp only
  (repeat' split) <;> simp (maxDischargeDepth := 12) [h, hP]

@[simp] theorem has_judgeReport (hP : Kept P) (s : State) (h : s.Has P) : (s.judgeReport).Has P := by
  unfold State.judgeReport
  dsimp only
  refine has_endsFound hP _ ?_
  have h1 : (if s.hold.freezes then s.freezeStart else s).Has P := by split <;> simp [h, hP]
  generalize (if s.hold.freezes then s.freezeStart else s) = u at h1
  split <;> simp [h1, hP]

/-! ## The boundary and the rollover -/

@[simp] theorem has_cutRuns (hP : Kept P) (s : State) (h : s.Has P) : (s.cutRuns).Has P := by
  unfold State.cutRuns
  refine has_forEach (fun z t ht => ?_) _ s h
  (repeat' split) <;> simp [ht, hP]

@[simp] theorem has_boundary (hP : Kept P) (s : State) (h : s.Has P) : (s.boundary).Has P := by
  unfold State.boundary
  try dsimp only
  simp (maxDischargeDepth := 12) [h, hP]

@[simp] theorem has_dayRollover (hP : Kept P) (count : Nat) (s : State) (h : s.Has P) : (s.dayRollover count).Has P := by
  unfold State.dayRollover
  try dsimp only
  simp (maxDischargeDepth := 12) [h, hP]

/-! ## The resets -/

@[simp] theorem has_resetZones (hP : Kept P) (s : State) (h : s.Has P) : (s.resetZones).Has P := by
  unfold State.resetZones
  refine has_forEach (fun z t ht => ?_) _ _ (hP.zones _ s h)
  (repeat' split) <;> simp [ht, hP]

@[simp] theorem has_resetPlan (hP : Kept P) (s : State) (h : s.Has P) : (s.resetPlan).Has P := by
  unfold State.resetPlan
  try dsimp only
  simp (maxDischargeDepth := 12) [h, hP]

@[simp] theorem has_resetLine (hP : Kept P) (s : State) (h : s.Has P) : (s.resetLine).Has P := by
  unfold State.resetLine
  try dsimp only
  (repeat' split) <;> simp (maxDischargeDepth := 12) [h, hP]

@[simp] theorem has_staleAll (hP : Kept P) (s : State) (h : s.Has P) : (s.staleAll).Has P := by
  unfold State.staleAll
  exact has_forEach (fun c t ht => has_reportChannel hP _ _ t ht) _ _ (hP.poller _ s h)

@[simp] theorem has_resetFieldAll (hP : Kept P) (s : State) (h : s.Has P) : (s.resetFieldAll).Has P := by
  unfold State.resetFieldAll
  try dsimp only
  simp (maxDischargeDepth := 12) [h, hP]

end Sys2Proof.Machine
end

