-- ==== Sys2Proof/Laws/Bounds.lean ====
section
/-!
SUPPORT. The properties that every shared operation keeps (Laws/Kept.lean): the bounds of the reply queue and of the
Notice Queue, a reply that has been given, the count of open runs and the flow budget, and a trip.
-/

-- One theorem at a time, which keeps the number of Lean's threads small.
set_option Elab.async false
namespace Sys2Proof.Machine

/-! ## The bounds of the queues (R174, R178) -/

/-- At most 4 replies and 32 notices. -/
def Link.Bounded (l : Link) : Prop := l.replies.length ≤ 4 ∧ l.notices.length ≤ 32

theorem queuesOk_iff (s : State) : s.QueuesOk ↔ s.link.Bounded := Iff.rfl

theorem bounded_moveSlot (i : Nat) {l : Link} (h : l.Bounded) (hr : l.replies.length < 4) : (l.moveSlot i).Bounded := by
  unfold Link.moveSlot
  split
  · exact ⟨by simp only [List.length_append, List.length_singleton]; omega, h.2⟩
  · exact h

theorem bounded_fillFrom (is : List Nat) : ∀ l : Link, l.Bounded → (Link.fillFrom is l).Bounded := by
  induction is with
  | nil => intro l h; exact h
  | cons i rest ih =>
    intro l h
    unfold Link.fillFrom
    split
    · rename_i hr; exact ih _ (bounded_moveSlot i h hr)
    · exact h

theorem bounded_takeNotice {l : Link} (h : l.Bounded) : l.takeNotice.Bounded := by
  unfold Link.takeNotice
  split
  · exact h
  · rename_i n rest hn
    have hl := h.2
    rw [hn] at hl
    simp only [List.length_cons] at hl
    split
    · exact ⟨h.1, by simp only [List.length_append, List.length_singleton]; omega⟩
    · exact ⟨h.1, by show rest.length ≤ 32; omega⟩

theorem bounded_pump {l : Link} (h : l.Bounded) : l.pump.Bounded := by
  unfold Link.pump
  split
  · exact h
  · split
    · rename_i f rest hr
      have hl := h.1
      rw [hr] at hl
      simp only [List.length_cons] at hl
      exact bounded_fillFrom _ _ ⟨by show rest.length ≤ 4; omega, h.2⟩
    · exact bounded_takeNotice h

theorem bounded_frameSent {l : Link} (h : l.Bounded) : l.frameSent.Bounded := by
  unfold Link.frameSent
  split
  · exact bounded_takeNotice h
  · exact bounded_pump h

theorem bounded_post (n : Notice) {l : Link} (h : l.Bounded) : (l.post n).Bounded := by
  unfold Link.post
  (repeat' split)
  · exact h
  · exact h
  · exact bounded_pump ⟨h.1, by simp only [List.length_append, List.length_singleton]; omega⟩
  · exact h

theorem bounded_completeSlot (i : Nat) (p : List Byte) {l : Link} (h : l.Bounded) : (l.completeSlot i p).Bounded := by
  unfold Link.completeSlot
  (repeat' split)
  · refine bounded_pump (bounded_fillFrom _ _ ?_)
    exact h
  · exact h
  · exact h

/-- A reply fits while RDY is asserted (R174). -/
theorem bounded_queueReply (f : HostFrame) {l : Link} (h : l.Bounded) (hr : l.rdy = true) : (l.queueReply f).Bounded := by
  unfold Link.rdy at hr
  simp only [Bool.and_eq_true, decide_eq_true_eq] at hr
  exact bounded_pump ⟨by simp only [List.length_append, List.length_singleton]; omega, h.2⟩

theorem kept_queues : Kept State.QueuesOk where
  clock _ _ h := h
  grid _ _ h := h
  zones _ _ h := h
  seqr _ _ h := h
  hold _ _ h := h
  poller _ _ h := h
  devs _ _ h := h
  sched _ _ h := h
  line _ _ h := h
  todo _ _ h := h
  arb _ _ _ _ h := h
  charge _ _ _ h := h
  unshare _ _ h := h
  supply _ _ _ _ _ _ h := h
  setSupply _ _ _ _ _ h := h
  trip _ _ _ h := h
  post n _ h := bounded_post n h
  completeSlot _ _ _ _ h := bounded_completeSlot _ _ h
  slots _ _ h := h

/-- A reply that is queued while RDY is asserted keeps the bounds (R174). -/
theorem queues_reply (kind tag : Byte) (status : ReplyStatus) (result : List Byte) (s : State) (h : s.QueuesOk)
    (hr : s.rdy = true) : (s.reply kind tag status result).QueuesOk := bounded_queueReply _ h hr

/-! ## A reply that has been given (R174, R179) -/

/-- The reply is being sent or is queued. -/
def Link.Given (f : HostFrame) (l : Link) : Prop := l.tx = some f ∨ f ∈ l.replies

theorem given_moveSlot (f : HostFrame) (i : Nat) {l : Link} (h : l.Given f) : (l.moveSlot i).Given f := by
  unfold Link.moveSlot
  split
  · exact h.imp id fun hm => List.mem_append_left _ hm
  · exact h

theorem given_fillFrom (f : HostFrame) (is : List Nat) : ∀ l : Link, l.Given f → (Link.fillFrom is l).Given f := by
  induction is with
  | nil => intro l h; exact h
  | cons i rest ih =>
    intro l h
    unfold Link.fillFrom
    split
    · exact ih _ (given_moveSlot f i h)
    · exact h

theorem given_takeNotice (f : HostFrame) {l : Link} (h : f ∈ l.replies) : l.takeNotice.Given f := by
  unfold Link.takeNotice
  (repeat' split) <;> exact Or.inr h

theorem given_pump (f : HostFrame) {l : Link} (h : l.Given f) : l.pump.Given f := by
  unfold Link.pump
  split
  · exact h
  · rename_i ht
    have hm : f ∈ l.replies := h.resolve_left (by rw [ht]; simp)
    split
    · rename_i g rest hr
      refine given_fillFrom f _ _ ?_
      rw [hr] at hm
      rcases List.mem_cons.mp hm with e | e
      · exact Or.inl (by rw [e])
      · exact Or.inr e
    · exact given_takeNotice f hm

theorem given_post (f : HostFrame) (n : Notice) {l : Link} (h : l.Given f) : (l.post n).Given f := by
  unfold Link.post
  (repeat' split) <;> first | exact h | exact given_pump f h

theorem given_completeSlot (f : HostFrame) (i : Nat) (p : List Byte) {l : Link} (h : l.Given f) :
    (l.completeSlot i p).Given f := by
  unfold Link.completeSlot
  (repeat' split)
  · exact given_pump f (given_fillFrom f _ _ h)
  · exact h
  · exact h

/-- A reply that is queued has been given. -/
theorem given_queueReply (f : HostFrame) (l : Link) : (l.queueReply f).Given f :=
  given_pump f (Or.inr (List.mem_append_right _ (List.mem_singleton.mpr rfl)))

theorem kept_answered (f : HostFrame) : Kept (State.Answered f) where
  clock _ _ h := h
  grid _ _ h := h
  zones _ _ h := h
  seqr _ _ h := h
  hold _ _ h := h
  poller _ _ h := h
  devs _ _ h := h
  sched _ _ h := h
  line _ _ h := h
  todo _ _ h := h
  arb _ _ _ _ h := h
  charge _ _ _ h := h
  unshare _ _ h := h
  supply _ _ _ _ _ _ h := h
  setSupply _ _ _ _ _ h := h
  trip _ _ _ h := h
  post n _ h := given_post f n h
  completeSlot _ _ _ _ h := given_completeSlot f _ _ h
  slots _ _ h := h

/-- A request's reply has been given. -/
theorem answered_reply (kind tag : Byte) (status : ReplyStatus) (result : List Byte) (s : State) :
    (s.reply kind tag status result).Answered (replyFrame kind tag status result) := given_queueReply _ _

/-! ## The count of open runs and the flow budget (R32, R35) -/

/-- The budget lies within a cap and a number of open runs. -/
def State.Within (cap maxOpen : Nat) (s : State) : Prop :=
  (s.supply.cap = cap ∧ s.supply.maxOpen = maxOpen) ∧ s.arb.flowSum ≤ cap ∧ s.arb.openCount ≤ maxOpen

theorem kept_within (cap maxOpen : Nat) : Kept (State.Within cap maxOpen) where
  clock _ _ h := h
  grid _ _ h := h
  zones _ _ h := h
  seqr _ _ h := h
  hold _ _ h := h
  poller _ _ h := h
  devs _ _ h := h
  sched _ _ h := h
  line _ _ h := h
  todo _ _ h := h
  arb f s h1 h2 h := ⟨h.1, by show (f s.arb).flowSum ≤ cap; rw [h1]; exact h.2.1,
    by show (f s.arb).openCount ≤ maxOpen; rw [h2]; exact h.2.2⟩
  charge z s hf h := by
    unfold State.fits at hf
    simp only [Bool.and_eq_true, decide_eq_true_eq] at hf
    obtain ⟨⟨hc, hm⟩, -, -⟩ := h
    exact ⟨⟨hc, hm⟩, hc ▸ hf.1, hm ▸ hf.2⟩
  unshare k s h := ⟨h.1, Nat.le_trans (Nat.sub_le _ _) h.2.1, Nat.le_trans (Nat.sub_le _ _) h.2.2⟩
  supply f s h1 h2 _ _ h := ⟨⟨h1.trans h.1.1, h2.trans h.1.2⟩, h.2⟩
  setSupply _ _ _ _ _ h := h
  trip _ _ _ h := h
  post _ _ h := h
  completeSlot _ _ _ _ h := h
  slots _ _ h := h

/-- The number of open runs is within max_open (R35). -/
def State.CountWithin (maxOpen : Nat) (s : State) : Prop :=
  s.supply.maxOpen = maxOpen ∧ s.arb.openCount ≤ maxOpen

theorem kept_countWithin (maxOpen : Nat) : Kept (State.CountWithin maxOpen) where
  clock _ _ h := h
  grid _ _ h := h
  zones _ _ h := h
  seqr _ _ h := h
  hold _ _ h := h
  poller _ _ h := h
  devs _ _ h := h
  sched _ _ h := h
  line _ _ h := h
  todo _ _ h := h
  arb f s _ h2 h := ⟨h.1, by show (f s.arb).openCount ≤ maxOpen; rw [h2]; exact h.2⟩
  charge z s hf h := by
    unfold State.fits at hf
    simp only [Bool.and_eq_true, decide_eq_true_eq] at hf
    exact ⟨h.1, h.1 ▸ hf.2⟩
  unshare k s h := ⟨h.1, Nat.le_trans (Nat.sub_le _ _) h.2⟩
  supply f s _ h2 _ _ h := ⟨h2.trans h.1, h.2⟩
  setSupply _ _ _ _ _ h := h
  trip _ _ _ h := h
  post _ _ h := h
  completeSlot _ _ _ _ h := h
  slots _ _ h := h

/-! ## A trip (R73, R74) -/

/-- The supply is TRIPPED with this cause. -/
def State.TrippedBy (c : Option TripCause) (s : State) : Prop := s.supply.state = .tripped ∧ s.supply.tripCause = c

theorem kept_trippedBy (c : Option TripCause) : Kept (State.TrippedBy c) where
  clock _ _ h := h
  grid _ _ h := h
  zones _ _ h := h
  seqr _ _ h := h
  hold _ _ h := h
  poller _ _ h := h
  devs _ _ h := h
  sched _ _ h := h
  line _ _ h := h
  todo _ _ h := h
  arb _ _ _ _ h := h
  charge _ _ _ h := h
  unshare _ _ h := h
  supply _ _ _ _ h3 h4 h := ⟨h3.trans h.1, h4.trans h.2⟩
  setSupply _ _ _ hn _ h := absurd h.1 hn
  trip _ _ hn h := absurd h.1 hn
  post _ _ h := h
  completeSlot _ _ _ _ h := h
  slots _ _ h := h

/-- A trip cause is present exactly while the supply is TRIPPED. -/
def State.CauseHeld (s : State) : Prop := s.supply.state = .tripped ↔ s.supply.tripCause.isSome = true

theorem kept_causeHeld : Kept State.CauseHeld where
  clock _ _ h := h
  grid _ _ h := h
  zones _ _ h := h
  seqr _ _ h := h
  hold _ _ h := h
  poller _ _ h := h
  devs _ _ h := h
  sched _ _ h := h
  line _ _ h := h
  todo _ _ h := h
  arb _ _ _ _ h := h
  charge _ _ _ h := h
  unshare _ _ h := h
  supply f s _ _ h3 h4 h := by
    show (f s.supply).state = .tripped ↔ (f s.supply).tripCause.isSome = true
    rw [h3, h4]; exact h
  setSupply st _ s hn ht h := by
    refine ⟨fun e => absurd e ht, fun e => absurd (h.mpr e) hn⟩
  trip _ _ _ _ := ⟨fun _ => rfl, fun _ => rfl⟩
  post _ _ h := h
  completeSlot _ _ _ _ h := h
  slots _ _ h := h

theorem supplyOk_of {s : State} (h1 : s.CauseHeld) (h2 : s.CountWithin s.supply.maxOpen) : s.SupplyOk := ⟨h1, h2.2⟩

end Sys2Proof.Machine
end

