-- ==== Sys2Proof/Laws/FieldFrames.lean ====
section
/-!
SUPPORT. The check of a field frame (R168): it passes exactly the bytes of a frame whose payload is at most 12 bytes long,
and gives that frame back.
-/

-- One theorem at a time, which keeps the number of Lean's threads small.
set_option Elab.async false
namespace Sys2Proof.Machine

theorem frameTypeOf_code (t : FrameType) : frameTypeOf t.code = some t := by cases t <;> rfl

theorem code_of_frameTypeOf {c : BitVec 2} {t : FrameType} (h : frameTypeOf c = some t) : t.code = c := by
  revert h
  revert c
  cases t <;> decide

theorem type_of_head (c : BitVec 2) (a : BitVec 6) : (c ++ a).extractLsb' 6 2 = c := by
  revert c a
  decide

theorem address_of_head (c : BitVec 2) (a : BitVec 6) : (c ++ a).extractLsb' 0 6 = a := by
  revert c a
  decide

theorem head_of_parts (b : Byte) : b.extractLsb' 6 2 ++ b.extractLsb' 0 6 = b := by
  revert b
  decide

/-- The check gives back the frame whose bytes it is given. -/
theorem fieldFrameOf_bytes (f : FieldFrame) (h : f.payload.length ≤ 12) : fieldFrameOf f.bytes = some f := by
  have hlen : (BitVec.ofNat 8 f.payload.length).toNat = f.payload.length := by
    rw [BitVec.toNat_ofNat]
    omega
  unfold FieldFrame.bytes FieldFrame.body fieldFrameOf
  simp only [List.cons_append, type_of_head, address_of_head, frameTypeOf_code, hlen, List.take_left', List.drop_left']
  simp [h, FieldFrame.body]

/-- Bytes that pass the check are those of the frame it gives, and its payload is at most 12 bytes long. -/
theorem bytes_of_fieldFrameOf {bytes : List Byte} {f : FieldFrame} (h : fieldFrameOf bytes = some f) :
    f.payload.length ≤ 12 ∧ bytes = f.bytes := by
  unfold fieldFrameOf at h
  split at h
  · rename_i head tag code len rest
    split at h
    · rename_i type htype
      simp only at h
      split at h
      · rename_i hok
        simp only [Bool.and_eq_true, decide_eq_true_eq] at hok
        obtain ⟨⟨h12, hrest⟩, hcrc⟩ := hok
        cases h
        have htake : (rest.take len.toNat).length = len.toNat := by
          rw [List.length_take]
          omega
        refine ⟨by simpa only [htake] using h12, ?_⟩
        unfold FieldFrame.bytes
        rw [← hcrc]
        simp only [FieldFrame.body, htake, code_of_frameTypeOf htype, head_of_parts, BitVec.ofNat_toNat,
          BitVec.setWidth_eq, List.cons_append, List.take_append_drop]
      · cases h
    · cases h
  · cases h

/-- What the check answers, said once for both ways. -/
theorem fieldFrameOf_eq_some {bytes : List Byte} {f : FieldFrame} :
    fieldFrameOf bytes = some f ↔ f.payload.length ≤ 12 ∧ bytes = f.bytes :=
  ⟨bytes_of_fieldFrameOf, fun h => h.2 ▸ fieldFrameOf_bytes f h.1⟩

theorem checked_of_le {f : FieldFrame} (h : f.payload.length ≤ 12) : f.checked = some f := if_pos h

theorem checked_of_lt {f : FieldFrame} (h : 12 < f.payload.length) : f.checked = none := if_neg (Nat.not_le.mpr h)

/-- A REPLY by its bytes and by its fields is one frame. -/
theorem fieldFrameOf_reply {address : BitVec 6} {tag code : Byte} {payload bytes : List Byte}
    (h : FieldBytes 1 address tag code payload bytes) :
    fieldFrameOf bytes = some { type := .reply, address := address, tag := tag, code := code, payload := payload } :=
  fieldFrameOf_eq_some.2 ⟨h.2.2.1, h.2.2.2⟩

theorem fieldFrameOf_command {address : BitVec 6} {tag code : Byte} {payload bytes : List Byte}
    (h : FieldBytes 2 address tag code payload bytes) :
    fieldFrameOf bytes = some { type := .command, address := address, tag := tag, code := code, payload := payload } :=
  fieldFrameOf_eq_some.2 ⟨h.2.2.1, h.2.2.2⟩

theorem fieldFrameOf_announce {address : BitVec 6} {tag code : Byte} {payload bytes : List Byte}
    (h : FieldBytes 3 address tag code payload bytes) :
    fieldFrameOf bytes = some { type := .announce, address := address, tag := tag, code := code, payload := payload } :=
  fieldFrameOf_eq_some.2 ⟨h.2.2.1, h.2.2.2⟩

theorem fieldBytes_of_fieldFrameOf {bytes : List Byte} {f : FieldFrame} (h : fieldFrameOf bytes = some f) :
    FieldBytes f.type.code.toNat f.address f.tag f.code f.payload bytes := by
  obtain ⟨h12, hb⟩ := bytes_of_fieldFrameOf h
  refine ⟨by cases f.type <;> decide, by cases f.type <;> decide, h12, ?_⟩
  rw [hb]
  simp only [FieldFrame.bytes, FieldFrame.body, BitVec.ofNat_toNat, BitVec.setWidth_eq]

/-- Bytes that spell no frame are those that the check turns away. -/
theorem fieldFails_iff {bytes : List Byte} : FieldFails bytes ↔ fieldFrameOf bytes = none := by
  constructor
  · intro h
    cases hf : fieldFrameOf bytes with
    | none => rfl
    | some f => exact absurd (fieldBytes_of_fieldFrameOf hf) (h _ _ _ _ _)
  · intro h type address tag code payload hb
    have : type = 1 ∨ type = 2 ∨ type = 3 := by
      have h1 := hb.1
      have h3 := hb.2.1
      omega
    rcases this with rfl | rfl | rfl
    · rw [fieldFrameOf_reply hb] at h
      cases h
    · rw [fieldFrameOf_command hb] at h
      cases h
    · rw [fieldFrameOf_announce hb] at h
      cases h

/-! ## Frames handed on -/

/-- The serial of an ANNOUNCE is its first four bytes, the most significant first. -/
theorem fieldSerial_cons (b0 b1 b2 b3 : Byte) (rest : List Byte) :
    fieldSerial (b0 :: b1 :: b2 :: b3 :: rest) = b0 ++ b1 ++ b2 ++ b3 := by
  apply BitVec.eq_of_toNat_eq
  have h0 := b0.isLt
  have h1 := b1.isLt
  have h2 := b2.isLt
  have h3 := b3.isLt
  simp only [fieldSerial, fieldHalf, fieldByte, List.getElem?_cons_zero, List.getElem?_cons_succ, BitVec.toNat_append,
    BitVec.toNat_ofNat]
  rw [← Nat.shiftLeft_add_eq_or_of_lt h1, ← Nat.shiftLeft_add_eq_or_of_lt h2, ← Nat.shiftLeft_add_eq_or_of_lt h3]
  simp only [Nat.shiftLeft_eq]
  omega

theorem hearFrame_of_powered {s : State} (h : s.line.state.powered = true) (f : FieldFrame) :
    s.hearFrame (some f) = (s.handOn f).finish := by
  unfold State.hearFrame
  rw [h]

theorem hearFrame_none_of_powered {s : State} (h : s.line.state.powered = true) :
    s.hearFrame none = s.frameFails.finish := by
  unfold State.hearFrame
  rw [h]

/-- On an unpowered line a reply is counted, and no other frame is heard. -/
theorem hearFrame_of_unpowered {s : State} (h : s.line.state.powered = false) (f : Option FieldFrame) :
    s.hearFrame f = if f.map (·.type) = some .reply then s.countStray else s := by
  unfold State.hearFrame
  rw [h]
  cases f with
  | none => rfl
  | some f => simp only [Option.map_some, Option.some.injEq]

end Sys2Proof.Machine
end

