-- ==== Sys2Proof/Laws/Grid.lean ====
section
/-!
SUPPORT. The banks of the Window Grid: every operation keeps their canonical form and keeps the cursor inside the window,
and a write changes the cells it names (R104 to R110).
-/

-- One theorem at a time, which keeps the number of Lean's threads small.
set_option Elab.async false
namespace Sys2Proof.Machine

/-! ## The canonical form -/

theorem wf_iff (b : Bank) : Bank.wf b = true ↔ b.Pairwise (· < ·) ∧ ∀ a ∈ b, a < 2304 := by
  have hz : ∀ l : List Nat, (l.zip (l.drop 1)).all (fun p => p.1 < p.2) = true ↔ l.Pairwise (· < ·) := by
    intro l
    induction l with
    | nil => simp
    | cons x rest ih =>
      cases rest with
      | nil => simp
      | cons y rest =>
        simp only [List.drop_succ_cons, List.drop_zero, List.zip_cons_cons, List.all_cons, Bool.and_eq_true,
          decide_eq_true_eq] at ih ⊢
        rw [List.pairwise_cons, ih]
        constructor
        · rintro ⟨hxy, hp⟩
          refine ⟨fun a ha => ?_, hp⟩
          rcases List.mem_cons.mp ha with h | h
          · exact h ▸ hxy
          · exact Nat.lt_trans hxy (List.rel_of_pairwise_cons hp h)
        · rintro ⟨hx, hp⟩
          exact ⟨hx y (by simp), hp⟩
  unfold Bank.wf
  rw [Bool.and_eq_true, hz, List.all_eq_true]
  simp

theorem mem_block (a c : Nat) (b : Bank) : c ∈ Bank.block a b ↔ c = a ∨ c ∈ b := by
  induction b with
  | nil => simp [Bank.block]
  | cons x rest ih =>
    unfold Bank.block
    split
    · simp
    · split
      · rename_i h; subst h; simp
      · simp only [List.mem_cons, ih]
        constructor
        · rintro (h | h | h)
          · exact Or.inr (Or.inl h)
          · exact Or.inl h
          · exact Or.inr (Or.inr h)
        · rintro (h | h | h)
          · exact Or.inr (Or.inl h)
          · exact Or.inl h
          · exact Or.inr (Or.inr h)

theorem pairwise_block (a : Nat) (b : Bank) (h : b.Pairwise (· < ·)) : (Bank.block a b).Pairwise (· < ·) := by
  induction b with
  | nil => simp [Bank.block]
  | cons x rest ih =>
    have hr := (List.pairwise_cons.mp h).2
    have hx := (List.pairwise_cons.mp h).1
    unfold Bank.block
    split
    · rename_i hlt
      refine List.pairwise_cons.mpr ⟨fun c hc => ?_, h⟩
      rcases List.mem_cons.mp hc with hc | hc
      · exact hc ▸ hlt
      · exact Nat.lt_trans hlt (hx c hc)
    · split
      · exact h
      · rename_i h1 h2
        refine List.pairwise_cons.mpr ⟨fun c hc => ?_, ih hr⟩
        rcases (mem_block a c rest).mp hc with hc | hc
        · omega
        · exact hx c hc

theorem wf_block {a : Nat} {b : Bank} (ha : a < 2304) (h : Bank.wf b = true) : Bank.wf (Bank.block a b) = true := by
  rw [wf_iff] at h ⊢
  refine ⟨pairwise_block a b h.1, fun c hc => ?_⟩
  rcases (mem_block a c b).mp hc with hc | hc
  · exact hc ▸ ha
  · exact h.2 c hc

theorem wf_filter {b : Bank} (p : Nat → Bool) (h : Bank.wf b = true) : Bank.wf (b.filter p) = true := by
  rw [wf_iff] at h ⊢
  exact ⟨h.1.filter p, fun c hc => h.2 c (List.mem_filter.mp hc).1⟩

/-- The address of a cell of the grid (R104). -/
theorem cellAddr_lt {zone slot : Nat} (hz : zone ≤ 48) (h1 : 1 ≤ zone) (hk : slot ≤ 47) : cellAddr zone slot < 2304 := by
  unfold cellAddr; omega

theorem cellAddr_inj {z k z' k' : Nat} (h1 : 1 ≤ z) (h1' : 1 ≤ z') (hk : k ≤ 47) (hk' : k' ≤ 47)
    (h : cellAddr z k = cellAddr z' k') : z = z' ∧ k = k' := by
  unfold cellAddr at h; omega

/-- Writing a cell keeps the canonical form. -/
theorem wf_setCell {b : Bank} {zone slot : Nat} (v : Bool) (hz : zone ≤ 48) (h1 : 1 ≤ zone) (hk : slot ≤ 47)
    (h : Bank.wf b = true) : Bank.wf (b.setCell zone slot v) = true := by
  unfold Bank.setCell
  split
  · exact wf_filter _ h
  · exact wf_block (cellAddr_lt hz h1 hk) h

/-- A written cell reads back, and no other cell changes (R107). -/
theorem isOpen_setCell (b : Bank) {z k z' k' : Nat} (v : Bool) (h1 : 1 ≤ z) (h1' : 1 ≤ z') (hk : k ≤ 47)
    (hk' : k' ≤ 47) : (b.setCell z k v).isOpen z' k' = if z' = z ∧ k' = k then v else b.isOpen z' k' := by
  have hc : cellAddr z' k' = cellAddr z k ↔ z' = z ∧ k' = k :=
    ⟨cellAddr_inj h1' h1 hk' hk, fun h => by rw [h.1, h.2]⟩
  unfold Bank.isOpen Bank.setCell
  by_cases he : z' = z ∧ k' = k
  · rw [if_pos he, he.1, he.2]
    cases v <;> simp [mem_block]
  · rw [if_neg he]
    have hn : ¬ cellAddr z' k' = cellAddr z k := fun h => he (hc.mp h)
    cases v <;> simp [mem_block, hn]

/-! ## The cursor (R106) -/

theorem cursorOk_step {g : Grid} (h : g.CursorOk) : g.step.CursorOk := by
  unfold Grid.CursorOk at h
  unfold Grid.step
  (repeat' split) <;> (unfold Grid.CursorOk; simp only; omega)

theorem step_active (g : Grid) : g.step.active = g.active := by
  unfold Grid.step; (repeat' split) <;> rfl

theorem step_staging (g : Grid) : g.step.staging = g.staging := by
  unfold Grid.step; (repeat' split) <;> rfl

theorem step_swapArmed (g : Grid) : g.step.swapArmed = g.swapArmed := by
  unfold Grid.step; (repeat' split) <;> rfl

/-! ## Writing and reading (R107, R108) -/

theorem write_active (vs : List Bool) : ∀ g : Grid, (g.write vs).active = g.active := by
  induction vs with
  | nil => intro g; rfl
  | cons v rest ih => intro g; exact (ih _).trans (step_active _)

theorem write_ok (vs : List Bool) : ∀ g : Grid, g.CursorOk → Bank.wf g.staging = true →
    (g.write vs).CursorOk ∧ Bank.wf (g.write vs).staging = true := by
  induction vs with
  | nil => intro g h hw; exact ⟨h, hw⟩
  | cons v rest ih =>
    intro g h hw
    refine ih _ (cursorOk_step (g := { g with staging := g.staging.setCell g.curZone g.curSlot v }) h) ?_
    rw [step_staging]
    unfold Grid.CursorOk at h
    exact wf_setCell v (by omega) (by omega) (by omega) hw

theorem read_banks (b : Bank) (n : Nat) : ∀ g : Grid,
    (g.read b n).2.active = g.active ∧ (g.read b n).2.staging = g.staging := by
  induction n with
  | zero => intro g; exact ⟨rfl, rfl⟩
  | succ n ih => intro g; exact ⟨(ih _).1.trans (step_active _), (ih _).2.trans (step_staging _)⟩

theorem read_cursorOk (b : Bank) (n : Nat) : ∀ g : Grid, g.CursorOk → (g.read b n).2.CursorOk := by
  induction n with
  | zero => intro g h; exact h
  | succ n ih => intro g h; exact ih _ (cursorOk_step h)

theorem read_length (b : Bank) (n : Nat) : ∀ g : Grid, (g.read b n).1.length = n := by
  induction n with
  | zero => intro g; rfl
  | succ n ih => intro g; simp [Grid.read, ih]

/-! ## The swap and the reset contents (R104, R110) -/

theorem swap_banks (g : Grid) (h : Bank.wf g.active = true) (hs : Bank.wf g.staging = true) :
    Bank.wf g.swap.active = true ∧ Bank.wf g.swap.staging = true := by
  unfold Grid.swap
  split
  · exact ⟨hs, hs⟩
  · exact ⟨h, hs⟩

theorem reset_banks : Bank.wf Grid.reset.active = true ∧ Bank.wf Grid.reset.staging = true := ⟨rfl, rfl⟩

end Sys2Proof.Machine
end

