-- ==== Sys2Proof/Laws/Keeps.lean ====
section
/-!
SUPPORT. Which blocks each shared operation leaves alone: one lemma per operation and block.
-/

-- One theorem at a time, which keeps the number of Lean's threads small.
set_option Elab.async false
namespace Sys2Proof.Machine

/-! ## One operation for each element -/

theorem forEach_zones {α : Type} {f : α → State → State} (h : ∀ a t, (f a t).zones = t.zones) (l : List α) :
    ∀ s : State, (s.forEach l f).zones = s.zones := by
  induction l with
  | nil => intro s; rfl
  | cons a rest ih => intro s; exact (ih (f a s)).trans (h a s)

theorem forEach_arb {α : Type} {f : α → State → State} (h : ∀ a t, (f a t).arb = t.arb) (l : List α) :
    ∀ s : State, (s.forEach l f).arb = s.arb := by
  induction l with
  | nil => intro s; rfl
  | cons a rest ih => intro s; exact (ih (f a s)).trans (h a s)

theorem forEach_seqr {α : Type} {f : α → State → State} (h : ∀ a t, (f a t).seqr = t.seqr) (l : List α) :
    ∀ s : State, (s.forEach l f).seqr = s.seqr := by
  induction l with
  | nil => intro s; rfl
  | cons a rest ih => intro s; exact (ih (f a s)).trans (h a s)

theorem forEach_supply {α : Type} {f : α → State → State} (h : ∀ a t, (f a t).supply = t.supply) (l : List α) :
    ∀ s : State, (s.forEach l f).supply = s.supply := by
  induction l with
  | nil => intro s; rfl
  | cons a rest ih => intro s; exact (ih (f a s)).trans (h a s)

theorem forEach_poller {α : Type} {f : α → State → State} (h : ∀ a t, (f a t).poller = t.poller) (l : List α) :
    ∀ s : State, (s.forEach l f).poller = s.poller := by
  induction l with
  | nil => intro s; rfl
  | cons a rest ih => intro s; exact (ih (f a s)).trans (h a s)

theorem forEach_devs {α : Type} {f : α → State → State} (h : ∀ a t, (f a t).devs = t.devs) (l : List α) :
    ∀ s : State, (s.forEach l f).devs = s.devs := by
  induction l with
  | nil => intro s; rfl
  | cons a rest ih => intro s; exact (ih (f a s)).trans (h a s)

theorem forEach_sched {α : Type} {f : α → State → State} (h : ∀ a t, (f a t).sched = t.sched) (l : List α) :
    ∀ s : State, (s.forEach l f).sched = s.sched := by
  induction l with
  | nil => intro s; rfl
  | cons a rest ih => intro s; exact (ih (f a s)).trans (h a s)

theorem forEach_line {α : Type} {f : α → State → State} (h : ∀ a t, (f a t).line = t.line) (l : List α) :
    ∀ s : State, (s.forEach l f).line = s.line := by
  induction l with
  | nil => intro s; rfl
  | cons a rest ih => intro s; exact (ih (f a s)).trans (h a s)

theorem forEach_link {α : Type} {f : α → State → State} (h : ∀ a t, (f a t).link = t.link) (l : List α) :
    ∀ s : State, (s.forEach l f).link = s.link := by
  induction l with
  | nil => intro s; rfl
  | cons a rest ih => intro s; exact (ih (f a s)).trans (h a s)

theorem forEach_todo {α : Type} {f : α → State → State} (h : ∀ a t, (f a t).todo = t.todo) (l : List α) :
    ∀ s : State, (s.forEach l f).todo = s.todo := by
  induction l with
  | nil => intro s; rfl
  | cons a rest ih => intro s; exact (ih (f a s)).trans (h a s)

/-! ## Records and marks -/

@[simp] theorem modZone_keeps (z : Nat) (f : Zone → Zone) (s : State) :
    (s.modZone z f).arb = s.arb ∧ (s.modZone z f).seqr = s.seqr ∧ (s.modZone z f).supply = s.supply ∧
      (s.modZone z f).poller = s.poller ∧ (s.modZone z f).devs = s.devs ∧ (s.modZone z f).sched = s.sched ∧
      (s.modZone z f).line = s.line ∧ (s.modZone z f).link = s.link ∧ (s.modZone z f).todo = s.todo := by
  unfold State.modZone
  try dsimp only
  refine ⟨?_, ?_, ?_, ?_, ?_, ?_, ?_, ?_, ?_⟩ <;>
    ((repeat' split) <;> first | with_reducible rfl | simp)

@[simp] theorem modRun_keeps (z : Nat) (f : Run → Run) (s : State) :
    (s.modRun z f).zones = s.zones ∧ (s.modRun z f).seqr = s.seqr ∧ (s.modRun z f).supply = s.supply ∧
      (s.modRun z f).poller = s.poller ∧ (s.modRun z f).devs = s.devs ∧ (s.modRun z f).sched = s.sched ∧
      (s.modRun z f).line = s.line ∧ (s.modRun z f).link = s.link ∧ (s.modRun z f).todo = s.todo := by
  unfold State.modRun
  try dsimp only
  refine ⟨?_, ?_, ?_, ?_, ?_, ?_, ?_, ?_, ?_⟩ <;>
    (first | with_reducible rfl | simp)

@[simp] theorem modRecord_keeps (z : Nat) (f : ActRecord → ActRecord) (s : State) :
    (s.modRecord z f).zones = s.zones ∧ (s.modRecord z f).arb = s.arb ∧ (s.modRecord z f).supply = s.supply ∧
      (s.modRecord z f).poller = s.poller ∧ (s.modRecord z f).devs = s.devs ∧ (s.modRecord z f).sched = s.sched ∧
      (s.modRecord z f).line = s.line ∧ (s.modRecord z f).link = s.link ∧ (s.modRecord z f).todo = s.todo := by
  unfold State.modRecord
  try dsimp only
  refine ⟨?_, ?_, ?_, ?_, ?_, ?_, ?_, ?_, ?_⟩ <;>
    (first | with_reducible rfl | simp)

@[simp] theorem modDevice_keeps (n : Serial) (f : Device → Device) (s : State) :
    (s.modDevice n f).zones = s.zones ∧ (s.modDevice n f).arb = s.arb ∧ (s.modDevice n f).seqr = s.seqr ∧
      (s.modDevice n f).supply = s.supply ∧ (s.modDevice n f).poller = s.poller ∧ (s.modDevice n f).sched = s.sched ∧
      (s.modDevice n f).line = s.line ∧ (s.modDevice n f).link = s.link ∧ (s.modDevice n f).todo = s.todo := by
  unfold State.modDevice
  try dsimp only
  refine ⟨?_, ?_, ?_, ?_, ?_, ?_, ?_, ?_, ?_⟩ <;>
    (first | with_reducible rfl | simp)

@[simp] theorem modChannel_keeps (n : Serial) (ch : Nat) (f : Channel → Channel) (s : State) :
    (s.modChannel n ch f).zones = s.zones ∧ (s.modChannel n ch f).arb = s.arb ∧ (s.modChannel n ch f).seqr = s.seqr ∧
      (s.modChannel n ch f).supply = s.supply ∧ (s.modChannel n ch f).devs = s.devs ∧
      (s.modChannel n ch f).sched = s.sched ∧ (s.modChannel n ch f).line = s.line ∧
      (s.modChannel n ch f).link = s.link ∧ (s.modChannel n ch f).todo = s.todo := by
  unfold State.modChannel
  try dsimp only
  refine ⟨?_, ?_, ?_, ?_, ?_, ?_, ?_, ?_, ?_⟩ <;>
    (first | with_reducible rfl | simp)

@[simp] theorem modPoll_keeps (n : Serial) (f : PollRec → PollRec) (s : State) :
    (s.modPoll n f).zones = s.zones ∧ (s.modPoll n f).arb = s.arb ∧ (s.modPoll n f).seqr = s.seqr ∧
      (s.modPoll n f).supply = s.supply ∧ (s.modPoll n f).devs = s.devs ∧ (s.modPoll n f).sched = s.sched ∧
      (s.modPoll n f).line = s.line ∧ (s.modPoll n f).link = s.link ∧ (s.modPoll n f).todo = s.todo := by
  unfold State.modPoll
  try dsimp only
  refine ⟨?_, ?_, ?_, ?_, ?_, ?_, ?_, ?_, ?_⟩ <;>
    (first | with_reducible rfl | simp)

@[simp] theorem modEntry_keeps (i : Nat) (f : Entry → Entry) (s : State) :
    (s.modEntry i f).zones = s.zones ∧ (s.modEntry i f).arb = s.arb ∧ (s.modEntry i f).seqr = s.seqr ∧
      (s.modEntry i f).supply = s.supply ∧ (s.modEntry i f).poller = s.poller ∧ (s.modEntry i f).devs = s.devs ∧
      (s.modEntry i f).line = s.line ∧ (s.modEntry i f).link = s.link ∧ (s.modEntry i f).todo = s.todo := by
  unfold State.modEntry
  try dsimp only
  refine ⟨?_, ?_, ?_, ?_, ?_, ?_, ?_, ?_, ?_⟩ <;>
    (first | with_reducible rfl | simp)

@[simp] theorem wantScan_keeps (s : State) :
    (s.wantScan).zones = s.zones ∧ (s.wantScan).arb = s.arb ∧ (s.wantScan).seqr = s.seqr ∧
      (s.wantScan).supply = s.supply ∧ (s.wantScan).poller = s.poller ∧ (s.wantScan).devs = s.devs ∧
      (s.wantScan).sched = s.sched ∧ (s.wantScan).line = s.line ∧ (s.wantScan).link = s.link := by
  unfold State.wantScan
  try dsimp only
  refine ⟨?_, ?_, ?_, ?_, ?_, ?_, ?_, ?_, ?_⟩ <;>
    (first | with_reducible rfl | simp)

@[simp] theorem wantQuiet_keeps (s : State) :
    (s.wantQuiet).zones = s.zones ∧ (s.wantQuiet).arb = s.arb ∧ (s.wantQuiet).seqr = s.seqr ∧
      (s.wantQuiet).supply = s.supply ∧ (s.wantQuiet).poller = s.poller ∧ (s.wantQuiet).devs = s.devs ∧
      (s.wantQuiet).sched = s.sched ∧ (s.wantQuiet).line = s.line ∧ (s.wantQuiet).link = s.link := by
  unfold State.wantQuiet
  try dsimp only
  refine ⟨?_, ?_, ?_, ?_, ?_, ?_, ?_, ?_, ?_⟩ <;>
    (first | with_reducible rfl | simp)

@[simp] theorem discardWindow_keeps (s : State) :
    (s.discardWindow).zones = s.zones ∧ (s.discardWindow).arb = s.arb ∧ (s.discardWindow).seqr = s.seqr ∧
      (s.discardWindow).poller = s.poller ∧ (s.discardWindow).devs = s.devs ∧ (s.discardWindow).sched = s.sched ∧
      (s.discardWindow).line = s.line ∧ (s.discardWindow).link = s.link ∧ (s.discardWindow).todo = s.todo := by
  unfold State.discardWindow
  try dsimp only
  refine ⟨?_, ?_, ?_, ?_, ?_, ?_, ?_, ?_, ?_⟩ <;>
    (first | with_reducible rfl | simp)

@[simp] theorem wakeLine_keeps (s : State) :
    (s.wakeLine).zones = s.zones ∧ (s.wakeLine).arb = s.arb ∧ (s.wakeLine).seqr = s.seqr ∧
      (s.wakeLine).supply = s.supply ∧ (s.wakeLine).poller = s.poller ∧ (s.wakeLine).devs = s.devs ∧
      (s.wakeLine).sched = s.sched ∧ (s.wakeLine).link = s.link ∧ (s.wakeLine).todo = s.todo := by
  unfold State.wakeLine
  try dsimp only
  refine ⟨?_, ?_, ?_, ?_, ?_, ?_, ?_, ?_, ?_⟩ <;>
    ((repeat' split) <;> first | with_reducible rfl | simp)

/-! ## The Link Controller -/

@[simp] theorem post_keeps (n : Notice) (s : State) :
    (s.post n).zones = s.zones ∧ (s.post n).arb = s.arb ∧ (s.post n).seqr = s.seqr ∧ (s.post n).supply = s.supply ∧
      (s.post n).poller = s.poller ∧ (s.post n).devs = s.devs ∧ (s.post n).sched = s.sched ∧
      (s.post n).line = s.line ∧ (s.post n).todo = s.todo := ⟨rfl, rfl, rfl, rfl, rfl, rfl, rfl, rfl, rfl⟩

@[simp] theorem reply_keeps (kind tag : Byte) (status : ReplyStatus) (result : List Byte) (s : State) :
    (s.reply kind tag status result).zones = s.zones ∧ (s.reply kind tag status result).arb = s.arb ∧
      (s.reply kind tag status result).seqr = s.seqr ∧ (s.reply kind tag status result).supply = s.supply ∧
      (s.reply kind tag status result).poller = s.poller ∧ (s.reply kind tag status result).devs = s.devs ∧
      (s.reply kind tag status result).sched = s.sched ∧ (s.reply kind tag status result).line = s.line ∧
      (s.reply kind tag status result).todo = s.todo := ⟨rfl, rfl, rfl, rfl, rfl, rfl, rfl, rfl, rfl⟩

@[simp] theorem completeSlot_keeps (i : Nat) (status : ReplyStatus) (result : List Byte) (s : State) :
    (s.completeSlot i status result).zones = s.zones ∧ (s.completeSlot i status result).arb = s.arb ∧
      (s.completeSlot i status result).seqr = s.seqr ∧ (s.completeSlot i status result).supply = s.supply ∧
      (s.completeSlot i status result).poller = s.poller ∧ (s.completeSlot i status result).devs = s.devs ∧
      (s.completeSlot i status result).sched = s.sched ∧ (s.completeSlot i status result).line = s.line ∧
      (s.completeSlot i status result).todo = s.todo := ⟨rfl, rfl, rfl, rfl, rfl, rfl, rfl, rfl, rfl⟩

/-! ## The Field Scheduler -/

@[simp] theorem handOver_keeps (i : Nat) (gen : Bool) (req : Request) (s : State) :
    (s.handOver i gen req).zones = s.zones ∧ (s.handOver i gen req).arb = s.arb ∧
      (s.handOver i gen req).supply = s.supply ∧ (s.handOver i gen req).devs = s.devs ∧
      (s.handOver i gen req).sched = s.sched ∧ (s.handOver i gen req).line = s.line ∧
      (s.handOver i gen req).link = s.link ∧ (s.handOver i gen req).todo = s.todo := by
  unfold State.handOver
  try dsimp only
  refine ⟨?_, ?_, ?_, ?_, ?_, ?_, ?_, ?_⟩ <;>
    ((repeat' split) <;> first | with_reducible rfl | simp)

@[simp] theorem takeEntry_keeps (i : Nat) (req : Request) (s : State) :
    (s.takeEntry i req).zones = s.zones ∧ (s.takeEntry i req).arb = s.arb ∧ (s.takeEntry i req).supply = s.supply ∧
      (s.takeEntry i req).devs = s.devs ∧ (s.takeEntry i req).link = s.link ∧ (s.takeEntry i req).todo = s.todo := by
  unfold State.takeEntry
  try dsimp only
  refine ⟨?_, ?_, ?_, ?_, ?_, ?_⟩ <;>
    ((repeat' split) <;> first | with_reducible rfl | simp)

@[simp] theorem joinWaits_keeps (req : Request) (s : State) :
    (s.joinWaits req).zones = s.zones ∧ (s.joinWaits req).arb = s.arb ∧ (s.joinWaits req).seqr = s.seqr ∧
      (s.joinWaits req).supply = s.supply ∧ (s.joinWaits req).devs = s.devs ∧ (s.joinWaits req).line = s.line ∧
      (s.joinWaits req).link = s.link ∧ (s.joinWaits req).todo = s.todo := by
  unfold State.joinWaits
  try dsimp only
  refine ⟨?_, ?_, ?_, ?_, ?_, ?_, ?_, ?_⟩ <;>
    ((repeat' split) <;> first | with_reducible rfl | simp)

@[simp] theorem ask_keeps (req : Request) (s : State) :
    (s.ask req).zones = s.zones ∧ (s.ask req).arb = s.arb ∧ (s.ask req).supply = s.supply ∧
      (s.ask req).devs = s.devs ∧ (s.ask req).link = s.link ∧ (s.ask req).todo = s.todo := by
  unfold State.ask
  try dsimp only
  refine ⟨?_, ?_, ?_, ?_, ?_, ?_⟩ <;>
    ((repeat' split) <;> first | with_reducible rfl | simp)

@[simp] theorem grant_keeps (i : Nat) (s : State) :
    (s.grant i).zones = s.zones ∧ (s.grant i).arb = s.arb ∧ (s.grant i).supply = s.supply ∧
      (s.grant i).devs = s.devs ∧ (s.grant i).link = s.link ∧ (s.grant i).todo = s.todo := by
  unfold State.grant
  try dsimp only
  refine ⟨?_, ?_, ?_, ?_, ?_, ?_⟩ <;>
    ((repeat' split) <;> first | with_reducible rfl | simp)

@[simp] theorem freeEntry_keeps (i : Nat) (s : State) :
    (s.freeEntry i).zones = s.zones ∧ (s.freeEntry i).arb = s.arb ∧ (s.freeEntry i).supply = s.supply ∧
      (s.freeEntry i).devs = s.devs ∧ (s.freeEntry i).link = s.link := by
  unfold State.freeEntry
  try dsimp only
  refine ⟨?_, ?_, ?_, ?_, ?_⟩ <;>
    (first | with_reducible rfl | simp)

@[simp] theorem dropWaits_keeps (p : Request → Bool) (s : State) :
    (s.dropWaits p).zones = s.zones ∧ (s.dropWaits p).arb = s.arb ∧ (s.dropWaits p).seqr = s.seqr ∧
      (s.dropWaits p).supply = s.supply ∧ (s.dropWaits p).poller = s.poller ∧ (s.dropWaits p).devs = s.devs ∧
      (s.dropWaits p).line = s.line ∧ (s.dropWaits p).link = s.link := by
  unfold State.dropWaits
  try dsimp only
  refine ⟨?_, ?_, ?_, ?_, ?_, ?_, ?_, ?_⟩ <;>
    (first | with_reducible rfl | simp)

/-! ## Zones, supply and actuations -/

@[simp] theorem setZoneState_keeps (z : Nat) (st : ZoneState) (s : State) :
    (s.setZoneState z st).arb = s.arb ∧ (s.setZoneState z st).seqr = s.seqr ∧
      (s.setZoneState z st).supply = s.supply ∧ (s.setZoneState z st).poller = s.poller ∧
      (s.setZoneState z st).devs = s.devs ∧ (s.setZoneState z st).sched = s.sched ∧
      (s.setZoneState z st).line = s.line ∧ (s.setZoneState z st).todo = s.todo := by
  unfold State.setZoneState
  try dsimp only
  refine ⟨?_, ?_, ?_, ?_, ?_, ?_, ?_, ?_⟩ <;>
    ((repeat' split) <;> first | with_reducible rfl | simp)

@[simp] theorem faultZone_keeps (z : Nat) (reason : FaultReason) (s : State) :
    (s.faultZone z reason).arb = s.arb ∧ (s.faultZone z reason).seqr = s.seqr ∧
      (s.faultZone z reason).supply = s.supply ∧ (s.faultZone z reason).poller = s.poller ∧
      (s.faultZone z reason).devs = s.devs ∧ (s.faultZone z reason).sched = s.sched ∧
      (s.faultZone z reason).line = s.line ∧ (s.faultZone z reason).todo = s.todo := by
  unfold State.faultZone
  try dsimp only
  refine ⟨?_, ?_, ?_, ?_, ?_, ?_, ?_, ?_⟩ <;>
    (first | with_reducible rfl | simp)

@[simp] theorem reportRun_keeps (z : Nat) (s : State) :
    (s.reportRun z).arb = s.arb ∧ (s.reportRun z).seqr = s.seqr ∧ (s.reportRun z).supply = s.supply ∧
      (s.reportRun z).poller = s.poller ∧ (s.reportRun z).devs = s.devs ∧ (s.reportRun z).sched = s.sched ∧
      (s.reportRun z).line = s.line ∧ (s.reportRun z).todo = s.todo := by
  unfold State.reportRun
  try dsimp only
  refine ⟨?_, ?_, ?_, ?_, ?_, ?_, ?_, ?_⟩ <;>
    ((repeat' split) <;> first | with_reducible rfl | simp)

@[simp] theorem setSupply_keeps (st : SupplyState) (timerEnd : Option Nat) (s : State) :
    (s.setSupply st timerEnd).zones = s.zones ∧ (s.setSupply st timerEnd).arb = s.arb ∧
      (s.setSupply st timerEnd).seqr = s.seqr ∧ (s.setSupply st timerEnd).poller = s.poller ∧
      (s.setSupply st timerEnd).devs = s.devs ∧ (s.setSupply st timerEnd).sched = s.sched ∧
      (s.setSupply st timerEnd).line = s.line ∧ (s.setSupply st timerEnd).link = s.link ∧
      (s.setSupply st timerEnd).todo = s.todo := by
  unfold State.setSupply
  try dsimp only
  refine ⟨?_, ?_, ?_, ?_, ?_, ?_, ?_, ?_, ?_⟩ <;>
    (first | with_reducible rfl | simp)

@[simp] theorem supplyLag_keeps (s : State) :
    (s.supplyLag).zones = s.zones ∧ (s.supplyLag).arb = s.arb ∧ (s.supplyLag).seqr = s.seqr ∧
      (s.supplyLag).poller = s.poller ∧ (s.supplyLag).devs = s.devs ∧ (s.supplyLag).sched = s.sched ∧
      (s.supplyLag).line = s.line ∧ (s.supplyLag).link = s.link ∧ (s.supplyLag).todo = s.todo := by
  unfold State.supplyLag
  try dsimp only
  refine ⟨?_, ?_, ?_, ?_, ?_, ?_, ?_, ?_, ?_⟩ <;>
    ((repeat' split) <;> first | with_reducible rfl | simp)

@[simp] theorem lastRelease_keeps (s : State) :
    (s.lastRelease).zones = s.zones ∧ (s.lastRelease).arb = s.arb ∧ (s.lastRelease).seqr = s.seqr ∧
      (s.lastRelease).poller = s.poller ∧ (s.lastRelease).devs = s.devs ∧ (s.lastRelease).sched = s.sched ∧
      (s.lastRelease).line = s.line ∧ (s.lastRelease).link = s.link ∧ (s.lastRelease).todo = s.todo := by
  unfold State.lastRelease
  try dsimp only
  refine ⟨?_, ?_, ?_, ?_, ?_, ?_, ?_, ?_, ?_⟩ <;>
    ((repeat' split) <;> first | with_reducible rfl | simp)

@[simp] theorem handActuation_keeps (op : FieldOp) (z : Nat) (ref : Ref) (s : State) :
    (s.handActuation op z ref).zones = s.zones ∧ (s.handActuation op z ref).arb = s.arb ∧
      (s.handActuation op z ref).supply = s.supply ∧ (s.handActuation op z ref).devs = s.devs ∧
      (s.handActuation op z ref).link = s.link ∧ (s.handActuation op z ref).todo = s.todo := by
  unfold State.handActuation
  try dsimp only
  refine ⟨?_, ?_, ?_, ?_, ?_, ?_⟩ <;>
    ((repeat' split) <;> first | with_reducible rfl | simp)

@[simp] theorem handOpen_keeps (z : Nat) (s : State) :
    (s.handOpen z).zones = s.zones ∧ (s.handOpen z).arb = s.arb ∧ (s.handOpen z).supply = s.supply ∧
      (s.handOpen z).devs = s.devs ∧ (s.handOpen z).link = s.link ∧ (s.handOpen z).todo = s.todo := by
  unfold State.handOpen
  try dsimp only
  refine ⟨?_, ?_, ?_, ?_, ?_, ?_⟩ <;>
    ((repeat' split) <;> first | with_reducible rfl | simp)

@[simp] theorem supplyIsOn_keeps (s : State) :
    (s.supplyIsOn).zones = s.zones ∧ (s.supplyIsOn).arb = s.arb ∧ (s.supplyIsOn).supply = s.supply ∧
      (s.supplyIsOn).devs = s.devs ∧ (s.supplyIsOn).link = s.link ∧ (s.supplyIsOn).todo = s.todo := by
  unfold State.supplyIsOn
  refine ⟨?_, ?_, ?_, ?_, ?_, ?_⟩
  · refine (forEach_zones (fun a t => ?_) _ _).trans ?_
    · (repeat' split) <;> first | with_reducible rfl | simp
    · with_reducible rfl
  · refine (forEach_arb (fun a t => ?_) _ _).trans ?_
    · (repeat' split) <;> first | with_reducible rfl | simp
    · with_reducible rfl
  · refine (forEach_supply (fun a t => ?_) _ _).trans ?_
    · (repeat' split) <;> first | with_reducible rfl | simp
    · with_reducible rfl
  · refine (forEach_devs (fun a t => ?_) _ _).trans ?_
    · (repeat' split) <;> first | with_reducible rfl | simp
    · with_reducible rfl
  · refine (forEach_link (fun a t => ?_) _ _).trans ?_
    · (repeat' split) <;> first | with_reducible rfl | simp
    · with_reducible rfl
  · refine (forEach_todo (fun a t => ?_) _ _).trans ?_
    · (repeat' split) <;> first | with_reducible rfl | simp
    · with_reducible rfl

@[simp] theorem firstAdmission_keeps (s : State) :
    (s.firstAdmission).zones = s.zones ∧ (s.firstAdmission).arb = s.arb ∧ (s.firstAdmission).devs = s.devs ∧
      (s.firstAdmission).link = s.link ∧ (s.firstAdmission).todo = s.todo := by
  unfold State.firstAdmission
  try dsimp only
  refine ⟨?_, ?_, ?_, ?_, ?_⟩ <;>
    ((repeat' split) <;> first | with_reducible rfl | simp)

/-! ## Admission and the queue -/

@[simp] theorem charge_keeps (z : Nat) (s : State) :
    (s.charge z).zones = s.zones ∧ (s.charge z).devs = s.devs ∧ (s.charge z).link = s.link ∧
      (s.charge z).todo = s.todo := by
  unfold State.charge
  try dsimp only
  refine ⟨?_, ?_, ?_, ?_⟩ <;>
    ((repeat' split) <;> first | with_reducible rfl | simp)

@[simp] theorem makeRecord_keeps (z : Nat) (s : State) :
    (s.makeRecord z).zones = s.zones ∧ (s.makeRecord z).arb = s.arb ∧ (s.makeRecord z).supply = s.supply ∧
      (s.makeRecord z).poller = s.poller ∧ (s.makeRecord z).devs = s.devs ∧ (s.makeRecord z).sched = s.sched ∧
      (s.makeRecord z).line = s.line ∧ (s.makeRecord z).link = s.link ∧ (s.makeRecord z).todo = s.todo := by
  unfold State.makeRecord
  try dsimp only
  refine ⟨?_, ?_, ?_, ?_, ?_, ?_, ?_, ?_, ?_⟩ <;>
    ((repeat' split) <;> first | with_reducible rfl | simp)

@[simp] theorem admit_keeps (z : Nat) (s : State) :
    (s.admitRun z).devs = s.devs ∧ (s.admitRun z).todo = s.todo := by
  unfold State.admitRun
  try dsimp only
  refine ⟨?_, ?_⟩ <;>
    (first | with_reducible rfl | simp)

@[simp] theorem updateEstimate_keeps (z : Nat) (s : State) :
    (s.updateEstimate z).arb = s.arb ∧ (s.updateEstimate z).seqr = s.seqr ∧ (s.updateEstimate z).supply = s.supply ∧
      (s.updateEstimate z).poller = s.poller ∧ (s.updateEstimate z).devs = s.devs ∧
      (s.updateEstimate z).sched = s.sched ∧ (s.updateEstimate z).line = s.line ∧
      (s.updateEstimate z).link = s.link ∧ (s.updateEstimate z).todo = s.todo := by
  unfold State.updateEstimate
  try dsimp only
  refine ⟨?_, ?_, ?_, ?_, ?_, ?_, ?_, ?_, ?_⟩ <;>
    ((repeat' split) <;> first | with_reducible rfl | simp)

/-! ## Leaving and closing -/

@[simp] theorem leaveOpen_keeps (z : Nat) (s : State) :
    (s.leaveOpen z).zones = s.zones ∧ (s.leaveOpen z).seqr = s.seqr ∧ (s.leaveOpen z).poller = s.poller ∧
      (s.leaveOpen z).devs = s.devs ∧ (s.leaveOpen z).sched = s.sched ∧ (s.leaveOpen z).line = s.line ∧
      (s.leaveOpen z).link = s.link ∧ (s.leaveOpen z).todo = s.todo := by
  unfold State.leaveOpen
  try dsimp only
  refine ⟨?_, ?_, ?_, ?_, ?_, ?_, ?_, ?_⟩ <;>
    ((repeat' split) <;> first | with_reducible rfl | simp)

@[simp] theorem dropRecord_keeps (z : Nat) (s : State) :
    (s.dropRecord z).zones = s.zones ∧ (s.dropRecord z).arb = s.arb ∧ (s.dropRecord z).supply = s.supply ∧
      (s.dropRecord z).poller = s.poller ∧ (s.dropRecord z).devs = s.devs ∧ (s.dropRecord z).line = s.line ∧
      (s.dropRecord z).link = s.link := by
  unfold State.dropRecord
  try dsimp only
  refine ⟨?_, ?_, ?_, ?_, ?_, ?_, ?_⟩ <;>
    (first | with_reducible rfl | simp)

@[simp] theorem release_keeps (z : Nat) (s : State) :
    (s.release z).zones = s.zones ∧ (s.release z).seqr = s.seqr ∧ (s.release z).poller = s.poller ∧
      (s.release z).devs = s.devs ∧ (s.release z).sched = s.sched ∧ (s.release z).line = s.line ∧
      (s.release z).link = s.link := by
  unfold State.release
  try dsimp only
  refine ⟨?_, ?_, ?_, ?_, ?_, ?_, ?_⟩ <;>
    ((repeat' split) <;> first | with_reducible rfl | simp)

@[simp] theorem settle_keeps (z : Nat) (f : Run → Run) (s : State) :
    (s.settle z f).poller = s.poller ∧ (s.settle z f).devs = s.devs ∧ (s.settle z f).line = s.line := by
  unfold State.settle
  try dsimp only
  refine ⟨?_, ?_, ?_⟩ <;>
    (first | with_reducible rfl | simp)

@[simp] theorem countOpen_keeps (z : Nat) (r : Run) (s : State) :
    (s.countOpen z r).arb = s.arb ∧ (s.countOpen z r).seqr = s.seqr ∧ (s.countOpen z r).supply = s.supply ∧
      (s.countOpen z r).poller = s.poller ∧ (s.countOpen z r).devs = s.devs ∧ (s.countOpen z r).sched = s.sched ∧
      (s.countOpen z r).line = s.line ∧ (s.countOpen z r).link = s.link ∧ (s.countOpen z r).todo = s.todo := by
  unfold State.countOpen
  try dsimp only
  refine ⟨?_, ?_, ?_, ?_, ?_, ?_, ?_, ?_, ?_⟩ <;>
    ((repeat' split) <;> first | with_reducible rfl | simp)

@[simp] theorem enterOpen_keeps (z : Nat) (s : State) :
    (s.enterOpen z).poller = s.poller ∧ (s.enterOpen z).devs = s.devs ∧ (s.enterOpen z).sched = s.sched ∧
      (s.enterOpen z).line = s.line ∧ (s.enterOpen z).todo = s.todo := by
  unfold State.enterOpen
  try dsimp only
  refine ⟨?_, ?_, ?_, ?_, ?_⟩ <;>
    ((repeat' split) <;> first | with_reducible rfl | simp)

@[simp] theorem abandonActuation_keeps (z : Nat) (s : State) :
    (s.abandonActuation z).zones = s.zones ∧ (s.abandonActuation z).arb = s.arb ∧
      (s.abandonActuation z).supply = s.supply ∧ (s.abandonActuation z).devs = s.devs ∧
      (s.abandonActuation z).link = s.link := by
  unfold State.abandonActuation
  try dsimp only
  refine ⟨?_, ?_, ?_, ?_, ?_⟩ <;>
    ((repeat' split) <;> first | with_reducible rfl | simp)

@[simp] theorem returnLine_keeps (s : State) :
    (s.returnLine).zones = s.zones ∧ (s.returnLine).seqr = s.seqr ∧ (s.returnLine).supply = s.supply ∧
      (s.returnLine).poller = s.poller ∧ (s.returnLine).devs = s.devs ∧ (s.returnLine).sched = s.sched ∧
      (s.returnLine).line = s.line ∧ (s.returnLine).link = s.link ∧ (s.returnLine).todo = s.todo := by
  unfold State.returnLine
  try dsimp only
  refine ⟨?_, ?_, ?_, ?_, ?_, ?_, ?_, ?_, ?_⟩ <;>
    (first | with_reducible rfl | simp)

@[simp] theorem releaseHeld_keeps (s : State) :
    (s.releaseHeld).zones = s.zones ∧ (s.releaseHeld).seqr = s.seqr ∧ (s.releaseHeld).supply = s.supply ∧
      (s.releaseHeld).poller = s.poller ∧ (s.releaseHeld).devs = s.devs ∧ (s.releaseHeld).sched = s.sched ∧
      (s.releaseHeld).line = s.line ∧ (s.releaseHeld).link = s.link ∧ (s.releaseHeld).todo = s.todo := by
  unfold State.releaseHeld
  try dsimp only
  refine ⟨?_, ?_, ?_, ?_, ?_, ?_, ?_, ?_, ?_⟩ <;>
    (first | with_reducible rfl | simp)

/-! ## The Device Manager and the Poller -/

@[simp] theorem rederive_keeps (z : Nat) (s : State) :
    (s.rederive z).arb = s.arb ∧ (s.rederive z).seqr = s.seqr ∧ (s.rederive z).supply = s.supply ∧
      (s.rederive z).poller = s.poller ∧ (s.rederive z).devs = s.devs ∧ (s.rederive z).sched = s.sched ∧
      (s.rederive z).line = s.line ∧ (s.rederive z).link = s.link := by
  unfold State.rederive
  try dsimp only
  refine ⟨?_, ?_, ?_, ?_, ?_, ?_, ?_, ?_⟩ <;>
    ((repeat' split) <;> first | with_reducible rfl | simp)

@[simp] theorem rederiveAll_keeps (s : State) :
    (s.rederiveAll).arb = s.arb ∧ (s.rederiveAll).seqr = s.seqr ∧ (s.rederiveAll).supply = s.supply ∧
      (s.rederiveAll).poller = s.poller ∧ (s.rederiveAll).devs = s.devs ∧ (s.rederiveAll).sched = s.sched ∧
      (s.rederiveAll).line = s.line ∧ (s.rederiveAll).link = s.link := by
  unfold State.rederiveAll
  refine ⟨?_, ?_, ?_, ?_, ?_, ?_, ?_, ?_⟩
  · refine (forEach_arb (fun a t => ?_) _ _).trans ?_
    · first | with_reducible rfl | simp
    · with_reducible rfl
  · refine (forEach_seqr (fun a t => ?_) _ _).trans ?_
    · first | with_reducible rfl | simp
    · with_reducible rfl
  · refine (forEach_supply (fun a t => ?_) _ _).trans ?_
    · first | with_reducible rfl | simp
    · with_reducible rfl
  · refine (forEach_poller (fun a t => ?_) _ _).trans ?_
    · first | with_reducible rfl | simp
    · with_reducible rfl
  · refine (forEach_devs (fun a t => ?_) _ _).trans ?_
    · first | with_reducible rfl | simp
    · with_reducible rfl
  · refine (forEach_sched (fun a t => ?_) _ _).trans ?_
    · first | with_reducible rfl | simp
    · with_reducible rfl
  · refine (forEach_line (fun a t => ?_) _ _).trans ?_
    · first | with_reducible rfl | simp
    · with_reducible rfl
  · refine (forEach_link (fun a t => ?_) _ _).trans ?_
    · first | with_reducible rfl | simp
    · with_reducible rfl

@[simp] theorem giveUp_keeps (n : Serial) (s : State) :
    (s.giveUp n).zones = s.zones ∧ (s.giveUp n).arb = s.arb ∧ (s.giveUp n).supply = s.supply ∧
      (s.giveUp n).link = s.link ∧ (s.giveUp n).todo = s.todo := by
  unfold State.giveUp
  try dsimp only
  refine ⟨?_, ?_, ?_, ?_, ?_⟩ <;>
    ((repeat' split) <;> first | with_reducible rfl | simp)

@[simp] theorem unplace_keeps (n : Serial) (s : State) :
    (s.unplace n).zones = s.zones ∧ (s.unplace n).arb = s.arb ∧ (s.unplace n).supply = s.supply ∧
      (s.unplace n).link = s.link ∧ (s.unplace n).todo = s.todo := by
  unfold State.unplace
  try dsimp only
  refine ⟨?_, ?_, ?_, ?_, ?_⟩ <;>
    (first | with_reducible rfl | simp)

@[simp] theorem makePoll_keeps (n : Serial) (s : State) :
    (s.makePoll n).zones = s.zones ∧ (s.makePoll n).arb = s.arb ∧ (s.makePoll n).seqr = s.seqr ∧
      (s.makePoll n).supply = s.supply ∧ (s.makePoll n).devs = s.devs ∧ (s.makePoll n).sched = s.sched ∧
      (s.makePoll n).line = s.line ∧ (s.makePoll n).link = s.link := by
  unfold State.makePoll
  try dsimp only
  refine ⟨?_, ?_, ?_, ?_, ?_, ?_, ?_, ?_⟩ <;>
    ((repeat' split) <;> first | with_reducible rfl | simp)

@[simp] theorem removePoll_keeps (n : Serial) (s : State) :
    (s.removePoll n).zones = s.zones ∧ (s.removePoll n).arb = s.arb ∧ (s.removePoll n).seqr = s.seqr ∧
      (s.removePoll n).supply = s.supply ∧ (s.removePoll n).devs = s.devs ∧ (s.removePoll n).line = s.line ∧
      (s.removePoll n).link = s.link := by
  unfold State.removePoll
  try dsimp only
  refine ⟨?_, ?_, ?_, ?_, ?_, ?_, ?_⟩ <;>
    (first | with_reducible rfl | simp)

@[simp] theorem deviceEvent_keeps (event : DeviceEvent) (n : Serial) (s : State) :
    (s.deviceEvent event n).zones = s.zones ∧ (s.deviceEvent event n).arb = s.arb ∧
      (s.deviceEvent event n).seqr = s.seqr ∧ (s.deviceEvent event n).supply = s.supply ∧
      (s.deviceEvent event n).poller = s.poller ∧ (s.deviceEvent event n).devs = s.devs ∧
      (s.deviceEvent event n).sched = s.sched ∧ (s.deviceEvent event n).line = s.line ∧
      (s.deviceEvent event n).todo = s.todo := by
  unfold State.deviceEvent
  try dsimp only
  refine ⟨?_, ?_, ?_, ?_, ?_, ?_, ?_, ?_, ?_⟩ <;>
    (first | with_reducible rfl | simp)

@[simp] theorem clearMiss_keeps (n : Serial) (s : State) :
    (s.clearMiss n).zones = s.zones ∧ (s.clearMiss n).arb = s.arb ∧ (s.clearMiss n).seqr = s.seqr ∧
      (s.clearMiss n).supply = s.supply ∧ (s.clearMiss n).poller = s.poller ∧ (s.clearMiss n).sched = s.sched ∧
      (s.clearMiss n).line = s.line ∧ (s.clearMiss n).link = s.link ∧ (s.clearMiss n).todo = s.todo := by
  unfold State.clearMiss
  try dsimp only
  refine ⟨?_, ?_, ?_, ?_, ?_, ?_, ?_, ?_, ?_⟩ <;>
    (first | with_reducible rfl | simp)

@[simp] theorem postMismatch_keeps (n : Serial) (d : Identity) (s : State) :
    (s.postMismatch n d).zones = s.zones ∧ (s.postMismatch n d).arb = s.arb ∧ (s.postMismatch n d).seqr = s.seqr ∧
      (s.postMismatch n d).supply = s.supply ∧ (s.postMismatch n d).poller = s.poller ∧
      (s.postMismatch n d).devs = s.devs ∧ (s.postMismatch n d).sched = s.sched ∧
      (s.postMismatch n d).line = s.line ∧ (s.postMismatch n d).todo = s.todo := by
  unfold State.postMismatch
  try dsimp only
  refine ⟨?_, ?_, ?_, ?_, ?_, ?_, ?_, ?_, ?_⟩ <;>
    (first | with_reducible rfl | simp)

@[simp] theorem becomeReady_keeps (n : Serial) (s : State) :
    (s.becomeReady n).arb = s.arb ∧ (s.becomeReady n).seqr = s.seqr ∧ (s.becomeReady n).supply = s.supply ∧
      (s.becomeReady n).sched = s.sched ∧ (s.becomeReady n).line = s.line := by
  unfold State.becomeReady
  try dsimp only
  refine ⟨?_, ?_, ?_, ?_, ?_⟩ <;>
    ((repeat' split) <;> first | with_reducible rfl | simp)

@[simp] theorem createDevice_keeps (n : Serial) (enrolled : Bool) (interval : Nat) (s : State) :
    (s.createDevice n enrolled interval).zones = s.zones ∧ (s.createDevice n enrolled interval).arb = s.arb ∧
      (s.createDevice n enrolled interval).seqr = s.seqr ∧ (s.createDevice n enrolled interval).supply = s.supply ∧
      (s.createDevice n enrolled interval).poller = s.poller ∧ (s.createDevice n enrolled interval).sched = s.sched ∧
      (s.createDevice n enrolled interval).line = s.line ∧ (s.createDevice n enrolled interval).link = s.link ∧
      (s.createDevice n enrolled interval).todo = s.todo := by
  unfold State.createDevice
  try dsimp only
  refine ⟨?_, ?_, ?_, ?_, ?_, ?_, ?_, ?_, ?_⟩ <;>
    ((repeat' split) <;> first | with_reducible rfl | simp)

@[simp] theorem removeDevice_keeps (n : Serial) (s : State) :
    (s.removeDevice n).zones = s.zones ∧ (s.removeDevice n).arb = s.arb ∧ (s.removeDevice n).seqr = s.seqr ∧
      (s.removeDevice n).supply = s.supply ∧ (s.removeDevice n).poller = s.poller ∧
      (s.removeDevice n).sched = s.sched ∧ (s.removeDevice n).line = s.line ∧ (s.removeDevice n).link = s.link ∧
      (s.removeDevice n).todo = s.todo := by
  unfold State.removeDevice
  try dsimp only
  refine ⟨?_, ?_, ?_, ?_, ?_, ?_, ?_, ?_, ?_⟩ <;>
    (first | with_reducible rfl | simp)

@[simp] theorem answerAborted_keeps (slot : Option Nat) (s : State) :
    (s.answerAborted slot).zones = s.zones ∧ (s.answerAborted slot).arb = s.arb ∧
      (s.answerAborted slot).seqr = s.seqr ∧ (s.answerAborted slot).supply = s.supply ∧
      (s.answerAborted slot).poller = s.poller ∧ (s.answerAborted slot).devs = s.devs ∧
      (s.answerAborted slot).sched = s.sched ∧ (s.answerAborted slot).line = s.line ∧
      (s.answerAborted slot).todo = s.todo := by
  unfold State.answerAborted
  try dsimp only
  refine ⟨?_, ?_, ?_, ?_, ?_, ?_, ?_, ?_, ?_⟩ <;>
    ((repeat' split) <;> first | with_reducible rfl | simp)

@[simp] theorem abandonEntry_keeps (n : Serial) (i : Nat) (s : State) :
    (s.abandonEntry n i).zones = s.zones ∧ (s.abandonEntry n i).arb = s.arb ∧
      (s.abandonEntry n i).supply = s.supply ∧ (s.abandonEntry n i).devs = s.devs := by
  unfold State.abandonEntry
  try dsimp only
  refine ⟨?_, ?_, ?_, ?_⟩ <;>
    ((repeat' split) <;> first | with_reducible rfl | simp)

@[simp] theorem abandon_keeps (n : Serial) (s : State) :
    (s.abandon n).zones = s.zones ∧ (s.abandon n).arb = s.arb ∧ (s.abandon n).supply = s.supply ∧
      (s.abandon n).devs = s.devs := by
  unfold State.abandon
  try dsimp only
  refine ⟨?_, ?_, ?_, ?_⟩ <;>
    (first | with_reducible rfl | simp [forEach_zones, forEach_arb, forEach_supply, forEach_devs])

@[simp] theorem startPlacing_keeps (n : Serial) (s : State) :
    (s.startPlacing n).zones = s.zones ∧ (s.startPlacing n).arb = s.arb ∧ (s.startPlacing n).supply = s.supply ∧
      (s.startPlacing n).link = s.link ∧ (s.startPlacing n).todo = s.todo := by
  unfold State.startPlacing
  try dsimp only
  refine ⟨?_, ?_, ?_, ?_, ?_⟩ <;>
    ((repeat' split) <;> first | with_reducible rfl | simp)

@[simp] theorem overflow_keeps (n : Serial) (s : State) :
    (s.overflow n).zones = s.zones ∧ (s.overflow n).arb = s.arb ∧ (s.overflow n).seqr = s.seqr ∧
      (s.overflow n).supply = s.supply ∧ (s.overflow n).poller = s.poller ∧ (s.overflow n).sched = s.sched ∧
      (s.overflow n).line = s.line ∧ (s.overflow n).todo = s.todo := by
  unfold State.overflow
  try dsimp only
  refine ⟨?_, ?_, ?_, ?_, ?_, ?_, ?_, ?_⟩ <;>
    ((repeat' split) <;> first | with_reducible rfl | simp)

@[simp] theorem windowDone_keeps (s : State) :
    (s.windowDone).zones = s.zones ∧ (s.windowDone).arb = s.arb ∧ (s.windowDone).seqr = s.seqr ∧
      (s.windowDone).supply = s.supply ∧ (s.windowDone).poller = s.poller ∧ (s.windowDone).sched = s.sched ∧
      (s.windowDone).line = s.line ∧ (s.windowDone).link = s.link ∧ (s.windowDone).todo = s.todo := by
  unfold State.windowDone
  try dsimp only
  refine ⟨?_, ?_, ?_, ?_, ?_, ?_, ?_, ?_, ?_⟩ <;>
    ((repeat' split) <;> first | with_reducible rfl | simp)

/-! ## Completions -/

@[simp] theorem storeReadings_keeps (n : Serial) (f : Channel → Channel) (s : State) :
    (s.storeReadings n f).zones = s.zones ∧ (s.storeReadings n f).arb = s.arb ∧ (s.storeReadings n f).seqr = s.seqr ∧
      (s.storeReadings n f).supply = s.supply ∧ (s.storeReadings n f).devs = s.devs ∧
      (s.storeReadings n f).sched = s.sched ∧ (s.storeReadings n f).line = s.line ∧
      (s.storeReadings n f).link = s.link ∧ (s.storeReadings n f).todo = s.todo := by
  unfold State.storeReadings
  refine ⟨?_, ?_, ?_, ?_, ?_, ?_, ?_, ?_, ?_⟩
  · refine (forEach_zones (fun a t => ?_) _ _).trans ?_
    · first | with_reducible rfl | simp
    · with_reducible rfl
  · refine (forEach_arb (fun a t => ?_) _ _).trans ?_
    · first | with_reducible rfl | simp
    · with_reducible rfl
  · refine (forEach_seqr (fun a t => ?_) _ _).trans ?_
    · first | with_reducible rfl | simp
    · with_reducible rfl
  · refine (forEach_supply (fun a t => ?_) _ _).trans ?_
    · first | with_reducible rfl | simp
    · with_reducible rfl
  · refine (forEach_devs (fun a t => ?_) _ _).trans ?_
    · first | with_reducible rfl | simp
    · with_reducible rfl
  · refine (forEach_sched (fun a t => ?_) _ _).trans ?_
    · first | with_reducible rfl | simp
    · with_reducible rfl
  · refine (forEach_line (fun a t => ?_) _ _).trans ?_
    · first | with_reducible rfl | simp
    · with_reducible rfl
  · refine (forEach_link (fun a t => ?_) _ _).trans ?_
    · first | with_reducible rfl | simp
    · with_reducible rfl
  · refine (forEach_todo (fun a t => ?_) _ _).trans ?_
    · first | with_reducible rfl | simp
    · with_reducible rfl

@[simp] theorem takeReadings_keeps (n : Serial) (c : Completion) (s : State) :
    (s.takeReadings n c).zones = s.zones ∧ (s.takeReadings n c).arb = s.arb ∧ (s.takeReadings n c).seqr = s.seqr ∧
      (s.takeReadings n c).supply = s.supply ∧ (s.takeReadings n c).devs = s.devs ∧
      (s.takeReadings n c).sched = s.sched ∧ (s.takeReadings n c).line = s.line ∧
      (s.takeReadings n c).link = s.link ∧ (s.takeReadings n c).todo = s.todo := by
  unfold State.takeReadings
  try dsimp only
  refine ⟨?_, ?_, ?_, ?_, ?_, ?_, ?_, ?_, ?_⟩ <;>
    ((repeat' split) <;> first | with_reducible rfl | simp)

@[simp] theorem nextPoll_keeps (n : Serial) (s : State) :
    (s.nextPoll n).zones = s.zones ∧ (s.nextPoll n).arb = s.arb ∧ (s.nextPoll n).seqr = s.seqr ∧
      (s.nextPoll n).supply = s.supply ∧ (s.nextPoll n).devs = s.devs ∧ (s.nextPoll n).sched = s.sched ∧
      (s.nextPoll n).line = s.line ∧ (s.nextPoll n).link = s.link := by
  unfold State.nextPoll
  try dsimp only
  refine ⟨?_, ?_, ?_, ?_, ?_, ?_, ?_, ?_⟩ <;>
    (first | with_reducible rfl | simp)

@[simp] theorem assignDone_keeps (n : Serial) (c : Completion) (s : State) :
    (s.assignDone n c).zones = s.zones ∧ (s.assignDone n c).arb = s.arb ∧ (s.assignDone n c).supply = s.supply ∧
      (s.assignDone n c).todo = s.todo := by
  unfold State.assignDone
  try dsimp only
  refine ⟨?_, ?_, ?_, ?_⟩ <;>
    ((repeat' split) <;> first | with_reducible rfl | simp)

@[simp] theorem releaseDone_keeps (addr : Nat) (c : Completion) (s : State) :
    (s.releaseDone addr c).zones = s.zones ∧ (s.releaseDone addr c).arb = s.arb ∧
      (s.releaseDone addr c).seqr = s.seqr ∧ (s.releaseDone addr c).supply = s.supply ∧
      (s.releaseDone addr c).poller = s.poller ∧ (s.releaseDone addr c).sched = s.sched ∧
      (s.releaseDone addr c).line = s.line ∧ (s.releaseDone addr c).link = s.link ∧
      (s.releaseDone addr c).todo = s.todo := by
  unfold State.releaseDone
  try dsimp only
  refine ⟨?_, ?_, ?_, ?_, ?_, ?_, ?_, ?_, ?_⟩ <;>
    ((repeat' split) <;> first | with_reducible rfl | simp)

@[simp] theorem answerFailure_keeps (slot : Nat) (c : Completion) (s : State) :
    (s.answerFailure slot c).zones = s.zones ∧ (s.answerFailure slot c).arb = s.arb ∧
      (s.answerFailure slot c).seqr = s.seqr ∧ (s.answerFailure slot c).supply = s.supply ∧
      (s.answerFailure slot c).poller = s.poller ∧ (s.answerFailure slot c).devs = s.devs ∧
      (s.answerFailure slot c).sched = s.sched ∧ (s.answerFailure slot c).line = s.line ∧
      (s.answerFailure slot c).todo = s.todo := by
  unfold State.answerFailure
  try dsimp only
  refine ⟨?_, ?_, ?_, ?_, ?_, ?_, ?_, ?_, ?_⟩ <;>
    ((repeat' split) <;> first | with_reducible rfl | simp)

@[simp] theorem queryReadCal_keeps (slot : Nat) (n : Serial) (addr : Nat) (d : Identity) (s : State) :
    (s.queryReadCal slot n addr d).zones = s.zones ∧ (s.queryReadCal slot n addr d).arb = s.arb ∧
      (s.queryReadCal slot n addr d).supply = s.supply ∧ (s.queryReadCal slot n addr d).devs = s.devs ∧
      (s.queryReadCal slot n addr d).todo = s.todo := by
  unfold State.queryReadCal
  try dsimp only
  refine ⟨?_, ?_, ?_, ?_, ?_⟩ <;>
    (first | with_reducible rfl | simp)

/-! ## The line -/

@[simp] theorem enterLine_keeps (st : LineState) (stateEnd : Option Nat) (cause : LineCause) (s : State) :
    (s.enterLine st stateEnd cause).zones = s.zones ∧ (s.enterLine st stateEnd cause).arb = s.arb ∧
      (s.enterLine st stateEnd cause).seqr = s.seqr ∧ (s.enterLine st stateEnd cause).supply = s.supply ∧
      (s.enterLine st stateEnd cause).poller = s.poller ∧ (s.enterLine st stateEnd cause).devs = s.devs ∧
      (s.enterLine st stateEnd cause).sched = s.sched ∧ (s.enterLine st stateEnd cause).todo = s.todo := by
  unfold State.enterLine
  try dsimp only
  refine ⟨?_, ?_, ?_, ?_, ?_, ?_, ?_, ?_⟩ <;>
    (first | with_reducible rfl | simp)

@[simp] theorem enterRising_keeps (cause : LineCause) (s : State) :
    (s.enterRising cause).zones = s.zones ∧ (s.enterRising cause).arb = s.arb ∧ (s.enterRising cause).seqr = s.seqr ∧
      (s.enterRising cause).supply = s.supply ∧ (s.enterRising cause).poller = s.poller ∧
      (s.enterRising cause).sched = s.sched ∧ (s.enterRising cause).todo = s.todo := by
  unfold State.enterRising
  try dsimp only
  refine ⟨?_, ?_, ?_, ?_, ?_, ?_, ?_⟩ <;>
    (first | with_reducible rfl | simp)

@[simp] theorem windowAfterOn_keeps (s : State) :
    (s.windowAfterOn).zones = s.zones ∧ (s.windowAfterOn).arb = s.arb ∧ (s.windowAfterOn).seqr = s.seqr ∧
      (s.windowAfterOn).supply = s.supply ∧ (s.windowAfterOn).poller = s.poller ∧ (s.windowAfterOn).sched = s.sched ∧
      (s.windowAfterOn).line = s.line ∧ (s.windowAfterOn).link = s.link ∧ (s.windowAfterOn).todo = s.todo := by
  unfold State.windowAfterOn
  try dsimp only
  refine ⟨?_, ?_, ?_, ?_, ?_, ?_, ?_, ?_, ?_⟩ <;>
    ((repeat' split) <;> first | with_reducible rfl | simp)

@[simp] theorem abortEntry_keeps (i : Nat) (s : State) :
    (s.abortEntry i).zones = s.zones ∧ (s.abortEntry i).arb = s.arb ∧ (s.abortEntry i).seqr = s.seqr ∧
      (s.abortEntry i).supply = s.supply ∧ (s.abortEntry i).poller = s.poller ∧ (s.abortEntry i).devs = s.devs ∧
      (s.abortEntry i).line = s.line ∧ (s.abortEntry i).todo = s.todo := by
  unfold State.abortEntry
  try dsimp only
  refine ⟨?_, ?_, ?_, ?_, ?_, ?_, ?_, ?_⟩ <;>
    ((repeat' split) <;> first | with_reducible rfl | simp)

@[simp] theorem abortAll_keeps (s : State) :
    (s.abortAll).zones = s.zones ∧ (s.abortAll).arb = s.arb ∧ (s.abortAll).seqr = s.seqr ∧
      (s.abortAll).supply = s.supply ∧ (s.abortAll).poller = s.poller ∧ (s.abortAll).devs = s.devs ∧
      (s.abortAll).line = s.line ∧ (s.abortAll).todo = s.todo := by
  unfold State.abortAll
  try dsimp only
  refine ⟨?_, ?_, ?_, ?_, ?_, ?_, ?_, ?_⟩ <;>
    (first | with_reducible rfl | simp [forEach_zones, forEach_arb, forEach_seqr, forEach_supply, forEach_poller, forEach_devs, forEach_line, forEach_todo])

@[simp] theorem loseDevices_keeps (s : State) :
    (s.loseDevices).arb = s.arb ∧ (s.loseDevices).seqr = s.seqr ∧ (s.loseDevices).supply = s.supply ∧
      (s.loseDevices).sched = s.sched ∧ (s.loseDevices).line = s.line ∧ (s.loseDevices).link = s.link := by
  unfold State.loseDevices
  try dsimp only
  refine ⟨?_, ?_, ?_, ?_, ?_, ?_⟩ <;>
    (first | with_reducible rfl | simp)

@[simp] theorem quietTest_keeps (s : State) :
    (s.quietTest).zones = s.zones ∧ (s.quietTest).arb = s.arb ∧ (s.quietTest).seqr = s.seqr ∧
      (s.quietTest).poller = s.poller ∧ (s.quietTest).devs = s.devs ∧ (s.quietTest).sched = s.sched ∧
      (s.quietTest).link = s.link ∧ (s.quietTest).todo = s.todo := by
  unfold State.quietTest
  try dsimp only
  refine ⟨?_, ?_, ?_, ?_, ?_, ?_, ?_, ?_⟩ <;>
    ((repeat' split) <;> first | with_reducible rfl | simp)

@[simp] theorem startFrame_keeps (i : Nat) (s : State) :
    (s.startFrame i).zones = s.zones ∧ (s.startFrame i).arb = s.arb ∧ (s.startFrame i).seqr = s.seqr ∧
      (s.startFrame i).supply = s.supply ∧ (s.startFrame i).poller = s.poller ∧ (s.startFrame i).devs = s.devs ∧
      (s.startFrame i).link = s.link ∧ (s.startFrame i).todo = s.todo := by
  unfold State.startFrame
  try dsimp only
  refine ⟨?_, ?_, ?_, ?_, ?_, ?_, ?_, ?_⟩ <;>
    (first | with_reducible rfl | simp)

@[simp] theorem serveLine_keeps (s : State) :
    (s.serveLine).zones = s.zones ∧ (s.serveLine).arb = s.arb ∧ (s.serveLine).seqr = s.seqr ∧
      (s.serveLine).supply = s.supply ∧ (s.serveLine).poller = s.poller ∧ (s.serveLine).devs = s.devs ∧
      (s.serveLine).link = s.link ∧ (s.serveLine).todo = s.todo := by
  unfold State.serveLine
  try dsimp only
  refine ⟨?_, ?_, ?_, ?_, ?_, ?_, ?_, ?_⟩ <;>
    ((repeat' split) <;> first | with_reducible rfl | simp)

@[simp] theorem endTurn_keeps (s : State) :
    (s.endTurn).zones = s.zones ∧ (s.endTurn).arb = s.arb ∧ (s.endTurn).seqr = s.seqr ∧
      (s.endTurn).supply = s.supply ∧ (s.endTurn).poller = s.poller ∧ (s.endTurn).devs = s.devs ∧
      (s.endTurn).sched = s.sched ∧ (s.endTurn).link = s.link ∧ (s.endTurn).todo = s.todo := by
  unfold State.endTurn
  try dsimp only
  refine ⟨?_, ?_, ?_, ?_, ?_, ?_, ?_, ?_, ?_⟩ <;>
    (first | with_reducible rfl | simp)

@[simp] theorem stopHeard_keeps (s : State) :
    (s.stopHeard).zones = s.zones ∧ (s.stopHeard).arb = s.arb ∧ (s.stopHeard).seqr = s.seqr ∧
      (s.stopHeard).supply = s.supply ∧ (s.stopHeard).poller = s.poller ∧ (s.stopHeard).devs = s.devs ∧
      (s.stopHeard).sched = s.sched ∧ (s.stopHeard).link = s.link ∧ (s.stopHeard).todo = s.todo := by
  unfold State.stopHeard
  try dsimp only
  refine ⟨?_, ?_, ?_, ?_, ?_, ?_, ?_, ?_, ?_⟩ <;>
    (first | with_reducible rfl | simp)

@[simp] theorem resumeWait_keeps (s : State) :
    (s.resumeWait).zones = s.zones ∧ (s.resumeWait).arb = s.arb ∧ (s.resumeWait).seqr = s.seqr ∧
      (s.resumeWait).supply = s.supply ∧ (s.resumeWait).poller = s.poller ∧ (s.resumeWait).devs = s.devs ∧
      (s.resumeWait).sched = s.sched ∧ (s.resumeWait).link = s.link ∧ (s.resumeWait).todo = s.todo := by
  unfold State.resumeWait
  try dsimp only
  refine ⟨?_, ?_, ?_, ?_, ?_, ?_, ?_, ?_, ?_⟩ <;>
    (first | with_reducible rfl | simp)

end Sys2Proof.Machine
end

