-- ==== Sys2Proof/Laws/Holds.lean ====
section
/-!
SUPPORT. What each operation of the Hold Unit does to the hold record, and that it keeps the rest of the frame
(chapter 5); the boundary and the rollover; and that no mark of an event is left when a command ends.
-/

-- One theorem at a time, which keeps the number of Lean's threads small.
set_option Elab.async false
namespace Sys2Proof.Machine

/-- A state whose frame is another's but for the hold record has the hold record named. -/
theorem hold_of_frame {s t : State} {h : HoldUnit} (e : t.frame = { s.frame with hold := h }) : t.hold = h :=
  congrArg Frame.hold e

/-! ## RAIN (R90) -/

/-- The hold record after sources are added to RAIN. -/
def HoldUnit.added (a : RainSources) (h : HoldUnit) : HoldUnit :=
  if h.sources.union a = h.sources then h
  else { h with sources := h.sources.union a, rainActive := true, releaseEnd := none }

/-- The hold record after RAIN has ended. -/
def HoldUnit.rainOver (h : HoldUnit) : HoldUnit := { h with rainActive := false, releaseEnd := none }

/-- The hold record after sources are removed from RAIN at an uptime. -/
def HoldUnit.removed (a : RainSources) (now : Nat) (h : HoldUnit) : HoldUnit :=
  if (h.sources.inter a).isEmpty then h
  else if !(h.sources.minus a).isEmpty then { h with sources := h.sources.minus a }
  else if ((h.sources.inter a).contact || (h.sources.inter a).observed) && 0 < h.cfg.releaseMin then
    { h with sources := h.sources.minus a, releaseEnd := some (now + h.cfg.releaseMin * 60) }
  else { h with sources := h.sources.minus a }.rainOver

@[simp] theorem frame_postRain (e : HoldEvent) (m : Option Nat) (s : State) : (s.postRain e m).frame = s.frame := by
  simp [State.postRain]

@[simp] theorem frame_rainAdd (a : RainSources) (s : State) :
    (s.rainAdd a).frame = { s.frame with hold := s.hold.added a } := by
  unfold State.rainAdd HoldUnit.added
  dsimp only
  split
  · rfl
  · (repeat' split) <;> simp

@[simp] theorem frame_rainEnd (s : State) : s.rainEnd.frame = { s.frame with hold := s.hold.rainOver } := by
  simp [State.rainEnd, HoldUnit.rainOver]

@[simp] theorem frame_rainRemove (a : RainSources) (s : State) :
    (s.rainRemove a).frame = { s.frame with hold := s.hold.removed a s.uptime } := by
  unfold State.rainRemove HoldUnit.removed
  dsimp only
  (repeat' split) <;> first | with_reducible rfl | (simp; done) | simp_all | rfl

/-! ## WIND, FREEZE and MANUAL (R91 to R94) -/

@[simp] theorem frame_windStart (s : State) : s.windStart.frame = { s.frame with hold := { s.hold with wind := true } } := by
  simp [State.windStart]

@[simp] theorem frame_windEnd (s : State) : s.windEnd.frame = { s.frame with hold := { s.hold with wind := false } } := by
  unfold State.windEnd
  split
  · simp
  · rename_i h
    have : s.hold.wind = false := by simpa using h
    cases hs : s.hold
    simp_all [State.frame]

@[simp] theorem frame_freezeStart (s : State) :
    s.freezeStart.frame = { s.frame with hold := { s.hold with freeze := true } } := by
  simp [State.freezeStart]

@[simp] theorem frame_freezeEnd (s : State) :
    s.freezeEnd.frame = { s.frame with hold := { s.hold with freeze := false } } := by
  simp [State.freezeEnd]

theorem frame_manualEnd (s : State) (h : s.hold.manual = true) :
    s.manualEnd.frame = { s.frame with hold := { s.hold with manual := false, manualEnd := none } } := by
  unfold State.manualEnd
  rw [if_pos h]
  simp

/-! ## The boundary and the rollover (R110 to R112) -/

@[simp] theorem frame_cutRuns (s : State) : s.cutRuns.frame = s.frame := by
  unfold State.cutRuns
  refine frame_forEach (fun z t => ?_) _ s
  (repeat' split) <;> first | with_reducible rfl | simp

theorem frame_boundary (s : State) :
    s.boundary.frame =
      { s.frame with clock := { s.clock with slot := s.clock.minute / 30 }, grid := s.grid.swap } := by
  unfold State.boundary
  dsimp only
  rw [frame_scan, frame_cutRuns, frame_post]
  rfl

@[simp] theorem frame_dayRollover (n : Nat) (s : State) : (s.dayRollover n).frame = s.frame := by
  simp [State.dayRollover]

/-! ## The marks of an event (log 30) -/

theorem scan_mark (s : State) : s.scan.todo.scan = false := by
  unfold State.scan
  dsimp only
  split <;> simp

/-- Every command that acts on the part leaves no mark. -/
theorem finish_todo (s : State) : s.finish.todo = { scan := false, quiet := false } := by
  unfold State.finish
  dsimp only
  have h1 : (if s.todo.scan then s.scan else s).todo.scan = false := by
    split
    · exact scan_mark s
    · rename_i h; simpa using h
  generalize (if s.todo.scan then s.scan else s) = u at h1
  have h2 : (if u.todo.quiet then (u.mapTodo fun d => { d with quiet := false }).quietTest else u).todo =
      { scan := false, quiet := false } := by
    split
    · simp only [quietTest_keeps, State.mapTodo_todo, h1]
    · rename_i h
      cases hu : u.todo
      simp_all
  simp only [serveLine_keeps, h2]

end Sys2Proof.Machine
end

