-- ==== Sys2Proof/Laws/Receiver.lean ====
section
/-!
SUPPORT. The receiver of the host line (R173): what its bytes and frames can change, said as what every property that a
request keeps is kept by too, and what a whole frame does to a receiver that hunts.
-/

-- One theorem at a time, which keeps the number of Lean's threads small.
set_option Elab.async false
namespace Sys2Proof.Machine

/-! ## What the receiver changes -/

/-- A link that differs at most in the receiver, the link error count and the overrun count. -/
def Link.OnlyReceiver (l m : Link) : Prop :=
  m = { l with receiver := m.receiver, linkErrors := m.linkErrors, overruns := m.overruns }

theorem onlyReceiver_refl (l : Link) : l.OnlyReceiver l := rfl

theorem onlyReceiver_trans {l m n : Link} (h : l.OnlyReceiver m) (k : m.OnlyReceiver n) : l.OnlyReceiver n := by
  unfold Link.OnlyReceiver at *
  rw [k, h]

theorem onlyReceiver_countError (l : Link) : l.OnlyReceiver l.countError := rfl

theorem onlyReceiver_countOverrun (l : Link) : l.OnlyReceiver l.countOverrun := rfl

theorem onlyReceiver_closeGap (now : Nat) (l : Link) : l.OnlyReceiver (l.closeGap now) := by
  unfold Link.closeGap
  split
  · exact onlyReceiver_countError l
  · exact onlyReceiver_refl l

theorem onlyReceiver_hunt (now : Nat) (b : HrxByte) (l : Link) : l.OnlyReceiver (l.hunt now b) := by
  unfold Link.hunt
  split <;> rfl

/-! ## Bytes on HRX -/

/-- What a change of the receiver and the two counts keeps, and a request that is handed on keeps, a byte keeps (R173). -/
theorem hearByte_keeps {P : State → Prop}
    (hl : ∀ (s : State) (l : Link), P s → s.link.OnlyReceiver l → P { s with link := l })
    (hr : ∀ (kind tag : Byte) (p : List Byte) (s : State), P s → P (s.request kind tag p)) (b : HrxByte) (s : State)
    (h : P s) : P (s.hearByte b) := by
  have ht : P (s.mapLink (Link.closeGap s.timeBase)) := hl s _ h (onlyReceiver_closeGap s.timeBase s.link)
  generalize htt : s.mapLink (Link.closeGap s.timeBase) = t at ht
  simp only [State.hearByte, htt]
  split
  · exact hl t _ ht (onlyReceiver_hunt _ b t.link)
  · unfold State.frameByte
    split
    · exact hl t _ ht (onlyReceiver_countError t.link)
    · split
      · exact hl t _ ht rfl
      · exact hl t _ ht (onlyReceiver_countError t.link)
      · exact hr _ _ _ _ (hl t _ ht rfl)

/-- What a change of the receiver and the two counts keeps, and a request that is handed on keeps, bytes on HRX keep
(R173). -/
theorem hear_keeps {P : State → Prop}
    (hl : ∀ (s : State) (l : Link), P s → s.link.OnlyReceiver l → P { s with link := l })
    (hr : ∀ (kind tag : Byte) (p : List Byte) (s : State), P s → P (s.request kind tag p)) (bytes : List HrxByte)
    (s : State) (h : P s) : P (s.hear bytes) := by
  unfold State.hear
  split
  · exact h
  · rename_i hb
    clear hb
    induction bytes generalizing s with
    | nil => exact h
    | cons b rest ih => exact ih (s.hearByte b) (hearByte_keeps hl hr b s h)

/-- A whole frame does nothing, is a change of the receiver and the counts, is its owner's answer after a gap is closed,
or is bytes of the frame in progress (R173, R180). -/
theorem takeFrame_keeps {P : State → Prop}
    (hl : ∀ (s : State) (l : Link), P s → s.link.OnlyReceiver l → P { s with link := l })
    (hr : ∀ (kind tag : Byte) (p : List Byte) (s : State), P s → P (s.request kind tag p)) (kind tag : Byte)
    (p : List Byte) (owner : State → State) (ho : ∀ s, P s → P (owner s)) (s : State) (h : P s) :
    P (s.takeFrame kind tag p owner) := by
  have ht : P (s.mapLink (Link.closeGap s.timeBase)) := hl s _ h (onlyReceiver_closeGap s.timeBase s.link)
  unfold State.takeFrame
  split
  · exact h
  · split
    · exact hl s _ h (onlyReceiver_countError s.link)
    · dsimp only
      split
      · exact ho _ ht
      · exact hear_keeps hl hr _ _ ht

/-- The receiver takes no byte in a break (R180). -/
@[simp] theorem hear_break (bytes : List HrxByte) {s : State} (h : s.link.inBreak = true) : s.hear bytes = s := by
  simp [State.hear, h]

/-! ## A receiver that hunts -/

@[simp] theorem closeGap_hunting (now : Nat) {l : Link} (h : l.receiver = .hunting) : l.closeGap now = l := by
  simp [Link.closeGap, Link.gapPassed, h]

@[simp] theorem mapLink_closeGap_hunting (now : Nat) {s : State} (h : s.link.receiver = .hunting) :
    s.mapLink (Link.closeGap now) = s := by
  simp only [State.mapLink, closeGap_hunting now h]

/-- A whole frame that a hunting receiver takes goes to the owner of its KIND (R173 to R175). -/
theorem takeFrame_hunting (kind tag : Byte) (p : List Byte) (owner : State → State) {s : State}
    (hb : s.link.inBreak = false) (hl : p.length ≤ 240) (hr : s.link.receiver = .hunting) :
    s.takeFrame kind tag p owner = owner s := by
  have hn : ¬ 240 < p.length := by omega
  simp [State.takeFrame, hb, hn, hr]

/-- A frame that is taken and whose length is the kind's reaches its owner (R174, R175). -/
theorem frameTaken_ready (kind tag : Byte) (owner : State → State) {s : State} (h : s.rdy = true) :
    s.frameTaken kind tag true owner = owner s := by
  simp [State.frameTaken, h]

end Sys2Proof.Machine
end

