-- ==== Sys2Proof/Laws/Windows.lean ====
section
/-!
SUPPORT. When an announce window begins (R131), in the terms the statements use.
-/

-- One theorem at a time, which keeps the number of Lean's threads small.
set_option Elab.async false
namespace Sys2Proof.Machine

theorem due_iff {s : State} {t : Option Nat} : s.due t = true ↔ ∃ e, t = some e ∧ e ≤ s.timeBase := by
  cases t with
  | none => simp [State.due]
  | some e => simp [State.due]

theorem nonePlacing_iff {s : State} :
    s.nonePlacing = true ↔ ∀ d, some d ∈ s.devs.table → d.state ≠ .placing := by
  simp only [State.nonePlacing, State.devices, List.all_eq_true, List.mem_filterMap, id_eq, exists_eq_right,
    Bool.not_eq_true', decide_eq_false_iff_not, ne_eq]

theorem windowOpen_eq_false_iff {s : State} : s.windowOpen = false ↔ s.NoWindowOpen := by
  simp [State.windowOpen, State.NoWindowOpen]

/-- What a window that has fallen due waits for. -/
theorem windowReady_iff {s : State} :
    s.windowReady = true ↔ (∃ e, s.devs.nextWindow = some e ∧ e ≤ s.timeBase) ∧
      (s.line.state = .sweeping ∨ s.line.state = .on) ∧ (∀ d, some d ∈ s.devs.table → d.state ≠ .placing) ∧
      s.NoWindowOpen := by
  rw [← due_iff, ← nonePlacing_iff, ← windowOpen_eq_false_iff]
  simp [State.windowReady, and_assoc]

end Sys2Proof.Machine
end

