-- ==== Sys2Proof/Tests/Slice0.lean ====
section
/-!
SUPPORT. The tests of the model: a term that each check of WellFormed refuses; and for each statement of
Certificates/Slice0/Obligations.lean states and operands that meet its hypotheses, clause by clause and at the edges of
their ranges, with what the model does there. Every test is about one step on a small garden.
-/

-- One theorem at a time, which keeps the number of Lean's threads small.
set_option Elab.async false
namespace Sys2Proof.Tests

open Sys2Proof Sys2Proof.Machine

/-! ## Small states -/

/-- The state after a command. -/
def after (c : Instr) (s : State) : State :=
  match exec c s with
  | .next t => t
  | .fault _ => s
  | .refused _ => s

/-- The state after one step on an empty queue. -/
def ticked (s : State) : State :=
  match step { s with pending := [] } with
  | .next t => t
  | .fault _ => s
  | .refused _ => s

def decoder : Device :=
  { serial := 0xD1#32, kind := .decoder, model := some 7, count := some 4, shortAddr := some 2, state := .ready,
    enrolled := true, duplicate := false, kindMismatch := false, missCount := 1, pollInterval := 15, createdSeq := 0 }

def probe : Device :=
  { serial := 0xE1#32, kind := .probe, model := some 9, count := some 3, shortAddr := some 1, state := .ready,
    enrolled := true, duplicate := false, kindMismatch := false, missCount := 1, pollInterval := 15, createdSeq := 1 }

/-- A device that was found and never enrolled. -/
def stranger : Device :=
  { serial := 0xA1#32, kind := .unknown, model := none, count := none, shortAddr := none, state := .unplaced,
    enrolled := false, duplicate := false, kindMismatch := false, missCount := 0, pollInterval := 15, createdSeq := 2 }

def channel1 : Channel :=
  { serial := 0xE1#32, channel := 1, dry := 1200, wet := 3400, lastRaw := some 1970, lastWetness := some 350,
    readingAt := some 40, quality := .good, fresh := true, staleAt := some 2740 }

def poll1 : PollRec := { serial := 0xE1#32, state := .waiting, nextPoll := some 940, dueSince := none, entry := none }

def valve1 : Ref := { serial := 0xD1#32, num := 1 }
def valve2 : Ref := { serial := 0xD1#32, num := 2 }

/-- Zone 1: two valves of the decoder and channel 1 of the probe. -/
def bed : Zone :=
  { Zone.reset with cfg := { ZoneConfig.reset with enabled := true }, outputs := [valve1, valve2],
                    channels := [{ serial := 0xE1#32, num := 1 }], state := .monitor, mode := .sensed,
                    estimate := some 350 }

def zonesWith (r : Zone) : List Zone := r :: List.replicate 47 Zone.reset

/-- A garden of one bed, its two devices READY, the line ON and the transmitter idle, at uptime 100. -/
def garden : State :=
  { State.reset with
    timeBase := 100000,
    clock := { uptime := 100, valid := true, day := 5, minute := 600, second := 0, slot := 20 },
    zones := zonesWith bed,
    supply := { Supply.reset with windowEnd := 110 },
    poller := { channels := some channel1 :: List.replicate 31 none, polls := [poll1] },
    devs := { DeviceManager.reset with table := some decoder :: some probe :: List.replicate 38 none, created := 2,
                                       nextWindow := some 105000, lastWindowAt := some 100000 },
    line := { Line.reset with state := .on },
    link := { Link.reset with tx := none } }

/-- The garden while a frame is being sent to the host. -/
def busy (s : State) : State :=
  { s with link := { s.link with tx := some { kind := 0x40#8, tag := 0#8, payload := [0#8], resets := false } } }

def lineAt (st : LineState) (stateEnd : Option Nat) (s : State) : State :=
  { s with line := { s.line with state := st, stateEnd := stateEnd } }

def run1 : Run :=
  { zone := 1, origin := .auto, seq := 0, totalS := 600, remainingS := 600, split := true, cycleS := none,
    cyclesDone := 0, opened := false, state := .waiting, suspHold := false, suspLine := false, closePending := false,
    destination := none, skipCount := 0, blocking := false, respectWindows := true, enqueuedAt := 90, outcome := none,
    faultReason := none, soakEnd := none }

/-- A garden with one run in its queue. -/
def owing (q : Run) (s : State) : State :=
  { s with arb := { s.arb with runs := [q], nextSeq := 1 }, zones := zonesWith { bed with state := q.zoneState } }

def opening : Run := { run1 with state := .opening }
def openRun : Run := { run1 with state := .opened, opened := true, cyclesDone := 1, cycleS := some 60 }

def record1 (a b : OutStatus) : ActRecord :=
  { zone := 1, outputs := [{ ref := valve1, status := a }, { ref := valve2, status := b }], openHanded := true,
    inFlight := none, cycleStart := none, cycleEnd := none, closeLimitAt := none, noRetry := false }

/-- A garden whose one run is admitted, with its actuation record and its share of the budget. -/
def admitted (q : Run) (x : ActRecord) (st : SupplyState) (s : State) : State :=
  let t := owing q s
  { t with arb := { t.arb with flowSum := 60, openCount := 1, openOrder := if q.state = .opened then [1] else [] },
           seqr := { t.seqr with records := [x] }, supply := { t.supply with state := st } }

/-- The bed is being watered: its cycle began 60 s ago and ends now. -/
def watering : State :=
  admitted openRun { record1 .opened .opened with cycleStart := some 40, cycleEnd := some 100 } .on garden

/-- An entry of the table. -/
def entryOf (o : Origin) (op : FieldOp) (addr : Nat) (n : Serial) : Entry :=
  { Entry.blank true with
    state := .sent, origin := o, address := addr, replyAddr := some addr, op := op, asked := op, subject := n,
    sentOnce := true, queuedAt := 99990 }

/-- One entry stands at index 0. -/
def asking (e : Entry) (s : State) : State :=
  { s with sched := { s.sched with entries := e :: List.replicate 15 (Entry.blank false) } }

/-- Entry 0 is in its turn. -/
def inTurn (ph : TurnPhase) (waitEnd replyLimit : Option Nat) (s : State) : State :=
  { s with line := { s.line with turn := some { entry := 0, startedAt := 99990, phase := ph, waitEnd := waitEnd,
                                                replyLimit := replyLimit } } }

/-- Every entry that POLL, DISCOVERY and LINK may take is QUEUED with a poll of another device. -/
def crowded (s : State) : State :=
  let e := { entryOf .poll .measure 9 0x99#32 with state := .queued, sentOnce := false }
  { s with sched := { s.sched with entries := List.replicate 12 e ++ List.replicate 4 (Entry.blank false) } }

/-- A host request for a probe's channel 1 waits in slot 0. -/
def waitingSlot (kind : ForwardKind) : Slot :=
  { state := .waiting, kind := kind, tag := 0x77#8, reply := none, channel := 1, found := none }

def withSlot (kind : ForwardKind) (s : State) : State :=
  { s with link := { s.link with slots := waitingSlot kind :: List.replicate 7 Slot.blank } }

/-! ## WellFormed: each check refuses an ill-formed term -/

theorem test_wf_host_payload : (Instr.ident 0#8 (List.replicate 241 0#8)).wf = false := by decide +kernel
theorem test_wf_reset_plan_scope : (Instr.resetPlan 0#8 [1#8]).wf = false := by decide
theorem test_wf_reset_plan_scope_all : (Instr.resetPlan 0#8 [2#8]).wf = false := by decide
theorem test_wf_reset_field_scope : (Instr.resetField 0#8 [0#8]).wf = false := by decide
theorem test_wf_reset_all_scope : (Instr.resetAll 0#8 [1#8]).wf = false := by decide
theorem test_wf_unknown_kind : (Instr.unknownKind 0x1F#8 0#8 []).wf = false := by decide
theorem test_wf_unknown_kind_payload : (Instr.unknownKind 0x20#8 0#8 (List.replicate 241 0#8)).wf = false := by
  decide +kernel
theorem test_wf_zone_zero : (Instr.settleExpiry 0).wf = false := by decide
theorem test_wf_zone_high : (Instr.runExpiry 49).wf = false := by decide
theorem test_wf_poll_serial : (Instr.pollDue 0#32).wf = false := by decide
theorem test_wf_stale_serial : (Instr.stalenessExpiry 0#32 1).wf = false := by decide
theorem test_wf_stale_channel : (Instr.stalenessExpiry 1#32 4).wf = false := by decide
theorem test_wf_announced_zero : (Instr.announceSlotEnd (.serial 0#32)).wf = false := by decide
theorem test_wf_field_payload : (Instr.fieldReplyReceived 1#6 0#8 0#8 (List.replicate 13 0#8)).wf = false := by decide
theorem test_wf_hold_entry : (Instr.holdExpiry 16).wf = false := by decide
theorem test_wf_accepts :
    ([.ident 0#8 [], .resetPlan 0#8 [0#8], .resetField 0#8 [1#8], .resetAll 0#8 [2#8], .unknownKind 0x20#8 0#8 [],
      .settleExpiry 48, .pollDue 1#32, .stalenessExpiry 1#32 3, .holdExpiry 15] : List Instr).all Instr.wf = true := by
  decide

/-! ## The step and the time base -/

theorem witness_EveryCommandAnswersNextAndLeavesNoMark :
    garden.Settled ∧ exec .flowPulse garden = .next (after .flowPulse garden) := ⟨rfl, rfl⟩

theorem witness_EmptyQueueIsOneMillisecond :
    (garden.pending = [] ∧ (garden.timeBase + 1) % 1000 ≠ 0 ∧
      ticked garden = { garden with timeBase := 100001, pending := (ticked garden).pending }) ∧
    (let s := { garden with timeBase := 100999 }
     s.pending = [] ∧ (s.timeBase + 1) % 1000 = 0 ∧ (ticked s).clock.uptime = 101 ∧ (ticked s).clock.second = 1) := by
  decide +kernel

/-- A second before the next one, with a plan clock at a minute and a second. -/
def almost (valid : Bool) (minute second : Nat) : State :=
  { garden with timeBase := 100999,
                clock := { uptime := 4294967294, valid := valid, day := 5, minute := minute, second := second,
                           slot := minute / 30 } }

theorem witness_EmptyQueueIsOneMillisecond_planClock :
    (ticked (almost false 29 59)).clock = { (almost false 29 59).clock with uptime := 4294967295 } ∧
    (ticked (almost true 29 58)).clock = { (almost true 29 58).clock with uptime := 4294967295, second := 59 } ∧
    (ticked (almost true 28 59)).clock =
      { (almost true 28 59).clock with uptime := 4294967295, second := 0, minute := 29 } ∧
    (ticked (almost true 29 59)).clock = { (almost true 29 59).clock with uptime := 4294967295 } ∧
    (ticked (almost true 29 59)).pending.head? = some .slotBoundary := by decide +kernel

/-- A garden in which one timer of every kind has fallen due: the run closes, and the line is in a timed state. -/
def overdue (q : Run) (st : LineState) (supply : SupplyState) (ph : TurnPhase) (limit : Option Nat) : State :=
  let s := admitted q { record1 .opened .opened with cycleEnd := some 100, closeLimitAt := some 100000 } supply garden
  { inTurn ph (some 100000) limit (asking { entryOf .poll .measure 1 0xE1#32 with state := .holding, holdUntil := some 0 }
      (lineAt st (some 100000) s)) with
    zones := zonesWith { bed with state := .settling, settleEnd := some 100 },
    supply := { s.supply with timerEnd := some 100, windowEnd := 100 },
    hold := { HoldUnit.reset with
      debounceEnd := some 100000, releaseEnd := some 100, manual := true, manualEnd := some 100,
      weather := some { rainMmX10 := 0, rainProbPct := 0, tempC := 9, windKmh := 0, etFactorPct := 100, validMin := 10,
                        validUntil := 100 } },
    poller := { channels := [some { channel1 with staleAt := some 100 }], polls := [{ poll1 with nextPoll := some 100 }] },
    devs := { s.devs with sweepEnd := some 100, nextWindow := some 100000 },
    seqr := { s.seqr with spacingEnd := some 100000 } }

theorem witness_TimersThatFallDueAreRaised :
    (let t := ticked (overdue { openRun with enqueuedAt := 0 } .on .lead .awaiting none)
     [.settleExpiry 1, .cycleTimerExpiry 1, .closeLimitExpiry 1, .leadExpiry, .flowWindowEnd, .debounceExpiry,
       .releaseExpiry, .weatherStale, .manualHoldExpiry, .pollDue 0xE1#32, .stalenessExpiry 0xE1#32 1, .sweepEnd,
       .holdExpiry 0, .turnTimeout, .spacingExpiry, .announceWindowDue].all (t.pending.contains ·) = true) ∧
    (let s := overdue { run1 with state := .soaking, soakEnd := some 100 } .rising .lag .announceSlot none
     let t := ticked { s with clock := { s.clock with uptime := 86490 },
                              line := { s.line with guardEnd := some 100000, foreignBusy := true,
                                                    foreignLimit := some 100000 } }
     [.runExpiry 1, .soakExpiry 1, .lagExpiry, .riseDone, .announceSlotEnd .empty, .guardExpiry,
       .foreignFrameCutoff].all (t.pending.contains ·) = true) ∧
    .sweepDone ∈ (ticked (overdue openRun .sweeping .on .awaiting (some 100000))).pending ∧
    (let s := { garden with link := { garden.link with receiver := .inFrame [0#8] 99950 } }
     .hostByteGapTimeout ∈ (ticked s).pending ∧ .hostByteGapTimeout ∉ (ticked { s with timeBase := 99999 }).pending) ∧
    .replyTooLong ∈ (ticked (overdue openRun .waking .on .awaiting (some 100000))).pending ∧
    .wakeDone ∈ (ticked (overdue openRun .waking .on .awaiting none)).pending ∧
    .coolDownDone ∈ (ticked (overdue openRun .fault .on .awaiting none)).pending ∧
    .restart ∈ (ticked (overdue openRun .off .on .awaiting none)).pending := by decide +kernel

/-! ## Invariants -/

theorem witness_StepsKeep :
    garden.TablesOk ∧ garden.QueuesOk ∧ garden.BanksOk ∧ garden.grid.CursorOk ∧ garden.SettingsOk ∧ garden.MapsOk ∧
      garden.clock.Ok ∧ garden.SupplyOk ∧ step garden = .next (ticked garden) := by
  refine ⟨?_, ?_, ?_, ?_, ?_, ?_, ?_, ?_, rfl⟩
  · unfold State.TablesOk; decide +kernel
  · unfold State.QueuesOk; decide +kernel
  · unfold State.BanksOk; decide +kernel
  · unfold Grid.CursorOk; decide +kernel
  · unfold State.SettingsOk; decide +kernel
  · unfold State.MapsOk; decide +kernel
  · unfold Clock.Ok; decide +kernel
  · unfold State.SupplyOk; decide +kernel

theorem witness_StepsKeep_holds : garden.hold.Ok ∧ step garden = .next (ticked garden) := by
  refine ⟨⟨by decide, by decide, by decide, by decide, fun w h => ?_⟩, rfl⟩
  cases h

theorem witness_StepsKeepSupplyAndBudget :
    let s := { watering with pending := [.flowPulse] }
    (∀ c rest, s.pending = c :: rest → c.bytewise s = false) ∧ s.arb.flowSum ≤ s.supply.cap ∧
      s.arb.openCount ≤ s.supply.maxOpen ∧ step s = .next (after .flowPulse { s with pending := [] }) :=
  ⟨fun c rest h => by injection h with hc _; subst hc; decide, by decide, by decide, rfl⟩

theorem witness_StepsKeepTheBudgetExact : watering.BudgetOk ∧ step watering = .next (ticked watering) := by
  refine ⟨⟨by decide +kernel, by decide +kernel, by decide +kernel, ?_, fun z => Iff.rfl, ?_⟩, rfl⟩
  · exact fun q h => ⟨{ bed with state := .active }, by rw [List.mem_singleton.mp h]; decide +kernel⟩
  · exact fun z h => ⟨openRun, by simp [watering, admitted, owing],
      by rw [List.mem_singleton.mp h]; decide +kernel⟩

theorem witness_SettingsChangeOnlyByTheirCommands :
    Instr.resets .flowPulse garden = false ∧ Instr.bytewise .flowPulse garden = false ∧
      Instr.bytewise (.ident 1#8 []) garden = false ∧ Instr.setsClock .flowPulse = false ∧ Instr.setsGrid .flowPulse = false ∧
      Instr.setsHolds .flowPulse = false ∧ Instr.setsZones .flowPulse = false ∧ Instr.setsMeter .overrun = false ∧
      Instr.setsLine .flowPulse = false := by decide +kernel

/-! ## The host link -/

theorem witness_IdentAndStatusOnlyAnswer :
    garden.Takes [] ∧
    after (.ident 0x11#8 []) garden =
      garden.replied 0x01#8 0x11#8 .ok [0x57#8, 0x30#8, 0x43#8, 48#8, 40#8, 32#8, 240#8] ∧
    (((after (.status 0x11#8 []) garden).link.tx.map fun f => f.payload.length) = some 29) := by decide +kernel

def aReply : HostFrame := { kind := 0x81#8, tag := 1#8, payload := [0#8], resets := false }

/-- A slot whose reply waits for a place. -/
def completeSlot : Slot := { waitingSlot .probeRead with state := .complete, reply := some [0x0A#8] }

theorem witness_NoticesArePostedAndTaken_replies :
    (Link.queueReply aReply (busy garden).link = { (busy garden).link with replies := [aReply] }) ∧
    (Link.queueReply aReply garden.link = { garden.link with tx := some aReply }) ∧
    (let l := { (busy garden).link with replies := [aReply, aReply, aReply, aReply], completeOrder := [0],
                                        slots := completeSlot :: List.replicate 7 Slot.blank }
     let t := after .hostFrameSent { garden with link := l }
     let slots := [completeSlot, { completeSlot with tag := 0x78#8 }] ++ List.replicate 6 Slot.blank
     let two := { l with completeOrder := [1, 0], slots := slots }
     let u := after .hostFrameSent { garden with link := two }
     u.link.replies.map (·.tag) = [1#8, 1#8, 1#8, 0x78#8] ∧ u.link.completeOrder = [0] ∧
       u.link.slots = two.slots.set 1 Slot.blank ∧ t.link.tx = some aReply ∧
       t.link.replies = [aReply, aReply, aReply, { aReply with kind := 0x9B#8, tag := 0x77#8, payload := [0x0A#8] }] ∧
       t.link.slots = List.replicate 8 Slot.blank ∧ t.link.completeOrder = []) ∧
    (let l := { (busy garden).link with notices := [.weatherStale false] }
     (after .hostFrameSent { garden with link := l }).link.tx = some (Notice.frame (.weatherStale false))) ∧
    (after .hostFrameSent (busy garden)).link = { (busy garden).link with tx := none } := by decide +kernel

/-- The reply of a request that comes between the end of a break and the end of the frame in progress follows READY. -/
theorem witness_NoticesArePostedAndTaken_ready :
    let s := after (.ident 1#8 []) (after .linkBreakEnd { (busy garden) with link := (busy garden).link.break })
    let t := after .hostFrameSent s
    s.link.tx = (busy garden).link.tx ∧ s.link.notices = [.ready .link] ∧ s.link.replies.length = 1 ∧
      t.link.tx = some { kind := 0x40#8, tag := 0#8, payload := [2#8], resets := false } ∧ t.link.notices = [] ∧
      t.link.replies = s.link.replies ∧ (after .hostFrameSent t).link.tx = s.link.replies.head? := by decide +kernel

/-- A link with a number of notices, a frame being sent. -/
def noticed (n discards : Nat) : Link :=
  { (busy garden).link with notices := List.replicate n (.day 0 0), discards := discards }

theorem witness_NoticesArePostedAndTaken :
    (let l := { garden.link with filter := 0x00002001#32 }
     l.inBreak = false ∧ l.passes (.day 0 0) = false ∧ l.post (.day 0 0) = l) ∧
    (noticed 32 254).post (.day 1 1) = noticed 32 255 ∧ (noticed 32 255).post (.day 1 1) = noticed 32 255 ∧
    (noticed 31 0).post (.day 0 0) = noticed 32 0 ∧
    (garden.link.post (.day 1 1)).tx = some (Notice.frame (.day 1 1)) ∧
    (noticed 32 0).takeNotice.notices.length = 31 ∧
    ((noticed 32 7).takeNotice.notices.getLast? = some (.noticeOverflow 7)) ∧
    (((noticed 32 7).post (.day 1 1)).takeNotice.notices.getLast? = some (.noticeOverflow 8)) ∧
    ((noticed 32 7).takeNotice.post (.day 1 1)).discards = 1 := by decide +kernel

theorem witness_NoticeFilterSetsTheMask :
    (let s := { busy garden with link := noticed 2 0 }
     let t := after (.noticeFilter 9#8 [0#8, 0#8, 0#8, 0#8]) s
     s.Takes [0#8, 0#8, 0#8, 0#8] ∧ t.link.filter = 0x00002001#32 ∧ t.link.notices = s.link.notices ∧
       t.link.replies.map (·.payload) = [[0#8, 0#8, 0#8, 0x20#8, 0x01#8]]) ∧
    (after .powerOnReset garden).link.filter = 0xFFFFFFFF#32 ∧
    (after .linkBreak { garden with link := { garden.link with filter := 0x2001#32 } }).link.filter = 0xFFFFFFFF#32 ∧
    (let s := { garden with link := { garden.link with tx := some { aReply with resets := true }, filter := 0x2001#32 } }
     (after .hostFrameSent s).link.filter = 0xFFFFFFFF#32) := by decide +kernel

theorem witness_WrongLengthOrKindIsRefused :
    garden.Takes [0#8] ∧ garden.Takes (List.replicate 240 0#8) ∧
    after (.ident 3#8 [0#8]) garden = garden.replied 0x01#8 3#8 .badLength [] ∧
    after (.zoneGet 3#8 []) garden = garden.replied 0x0C#8 3#8 .badLength [] ∧
    after (.holdSet 3#8 [0#8]) garden = garden.replied 0x06#8 3#8 .badLength [] ∧
    after (.setTime 3#8 [0#8]) garden = garden.replied 0x03#8 3#8 .badLength [] ∧
    after (.enrol 3#8 [0#8]) garden = garden.replied 0x18#8 3#8 .badLength [] ∧
    after (.weather 3#8 [0#8]) garden = garden.replied 0x04#8 3#8 .badLength [] ∧
    after (.supplySet 3#8 [0#8]) garden = garden.replied 0x08#8 3#8 .badLength [] ∧
    after (.zoneSet 3#8 [0#8]) garden = garden.replied 0x0B#8 3#8 .badLength [] ∧
    after (.runNow 3#8 [0#8, 0#8, 0#8]) garden = garden.replied 0x0F#8 3#8 .badLength [] ∧
    after (.zoneMap 3#8 [1#8, 0#8]) garden = garden.replied 0x0D#8 3#8 .badLength [] ∧
    after (.zoneMap 3#8 [1#8, 1#8, 0#8]) garden = garden.replied 0x0D#8 3#8 .badLength [] ∧
    (after (.unknownKind 0x20#8 3#8 []) garden).link.tx =
      some { kind := 0x80#8, tag := 3#8, payload := [1#8], resets := false } ∧
    (after (.unknownKind 0#8 3#8 []) garden).link.tx =
      some { kind := 0x80#8, tag := 3#8, payload := [1#8], resets := false } := by decide +kernel

/-- Four replies wait, so RDY is low. -/
def notReady : State := { garden with link := { (busy garden).link with replies := [aReply, aReply, aReply, aReply] } }

/-- The garden's receiver is in a frame, its last byte so many milliseconds old. -/
def midFrame (taken : List Byte) (age : Nat) (s : State) : State :=
  { s with link := { s.link with receiver := .inFrame taken (s.timeBase - age) } }

def goodByte (b : Byte) : HrxByte := { value := b, stopHigh := true }

/-- The frame of an IDENT with tag 1: SYNC, LEN, KIND, TAG, CRC. -/
def identFrame : HostFrame := { kind := 1#8, tag := 1#8, payload := [], resets := false }

/-- The garden in which one more link error has been counted. -/
def failedOnce : State := { garden with link := { garden.link with linkErrors := 1 } }

theorem witness_UntakenFramesAreOnlyCounted :
    Instr.frame? (.ident 1#8 []) = some identFrame ∧ Instr.frame? (.unknownKind 0x1F#8 0#8 []) = none ∧
    (let s := { garden with link := { garden.link with inBreak := true } }
     s.link.inBreak = true ∧ after (.ident 0#8 []) s = s) ∧
    (after (.ident 0#8 (List.replicate 241 0#8)) garden =
      { garden with link := { garden.link with linkErrors := 1 } }) ∧
    (notReady.rdy = false ∧ after (.ident 0#8 []) notReady =
      { notReady with link := { notReady.link with overruns := 1 } }) ∧
    (let s := { notReady with link := { notReady.link with overruns := 65535 } }
     after .overrun s = s) ∧
    (let s := { midFrame [] 0 garden with link := { (midFrame [] 0 garden).link with linkErrors := 65535 } }
     (after (.linkError [goodByte 241#8]) s).link = { s.link with receiver := .hunting }) ∧
    (midFrame [0#8] 51 garden).link.receiver = .inFrame [0#8] 99949 ∧
    after (.ident 1#8 []) (midFrame [0#8] 51 garden) = after (.ident 1#8 []) failedOnce ∧
    after (.linkError [goodByte 0xC3#8]) (midFrame [0#8] 51 garden) = midFrame [] 0 failedOnce ∧
    after .hostByteGapTimeout (midFrame [0#8] 51 garden) = failedOnce ∧
    after .hostByteGapTimeout (midFrame [0#8] 50 garden) = midFrame [0#8] 50 garden ∧
    after .hostByteGapTimeout garden = garden := by decide +kernel

theorem witness_UntakenFramesAreOnlyCounted_bytes :
    after (.linkError [goodByte 0xC2#8]) garden = garden ∧
    after (.linkError [{ value := 0xC3#8, stopHigh := false }]) garden = garden ∧
    after (.linkError [goodByte 0xC3#8]) garden = midFrame [] 0 garden ∧
    after (.linkError [{ value := 0#8, stopHigh := false }]) (midFrame [] 50 garden) = failedOnce ∧
    after (.linkError [goodByte 241#8]) (midFrame [] 50 garden) = failedOnce ∧
    after (.linkError [goodByte 240#8]) (midFrame [] 50 garden) = midFrame [240#8] 0 garden ∧
    (let checked := (identFrame.bytes.drop 1).take 4
     let last := identFrame.bytes.getLast?.getD 0#8
     checked.length = 4 ∧
       after (.linkError [goodByte last]) (midFrame checked 0 garden) = after (.ident 1#8 []) garden ∧
       after (.ident 1#8 []) garden ≠ garden ∧
       after (.linkError [goodByte (last + 1#8)]) (midFrame checked 0 garden) = failedOnce ∧
       (after (.linkError [goodByte last]) (midFrame checked 0 notReady)).link.overruns = 1) ∧
    after (.linkError identFrame.onHrx) garden = after (.ident 1#8 []) garden ∧
    (after (.linkError identFrame.onHrx) notReady).link = { notReady.link with overruns := 1 } ∧
    (let s := { garden with link := { garden.link with inBreak := true } }
     after (.linkError identFrame.onHrx) s = s) := by decide +kernel

/-- A request whose frame LINK_ERROR brings in two parts, after a discarded one, is taken and decoded like its own row. -/
theorem test_request_in_the_bytes_of_link_error :
    let run : HostFrame := { kind := 0x0F#8, tag := 1#8, payload := [1#8, 0#8, 1#8, 1#8], resets := false }
    let s := after (.linkError (goodByte 0xC3#8 :: goodByte 241#8 :: run.onHrx.take 5)) garden
    s.arb = garden.arb ∧ s.link.linkErrors = 1 ∧
      after (.linkError (run.onHrx.drop 5)) s = after (.runNow 1#8 [1#8, 0#8, 1#8, 1#8]) failedOnce ∧
      (after (.linkError (run.onHrx.drop 5)) s).arb.runs.length = 1 := by decide +kernel

/-- A frame whole inside another frame's bytes is those bytes until that frame is complete; the one that fits is taken. -/
theorem test_request_inside_a_frame_that_fails :
    let s := midFrame [0#8, 1#8, 1#8, 0#8] 50 garden
    Instr.bytewise (.ident 1#8 []) s = true ∧
      after (.ident 1#8 []) s = after (.linkError identFrame.onHrx) s ∧ (after (.ident 1#8 []) s).link.linkErrors = 1 ∧
      (after (.linkError identFrame.onHrx) (after (.ident 1#8 []) s)).link.tx =
        (after (.ident 1#8 []) garden).link.tx := by decide +kernel

/-- A frame with a long LEN is cut off, and the frame that follows is taken as its bytes until the gap. -/
theorem test_frame_inside_a_frame :
    let s := after (.linkError [goodByte 0xC3#8, goodByte 20#8, goodByte 1#8]) garden
    after (.ident 1#8 []) s = midFrame [20#8, 1#8, 0xC3#8, 0#8, 1#8, 1#8, 0xEF#8, 0x8C#8] 0 garden ∧
      (after (.ident 1#8 []) { s with timeBase := 100051 }).link.linkErrors = 1 := by decide +kernel

theorem witness_LinkBreakClearsTheLinkAndEndsReady :
    (let s := asking { entryOf .link .measure 1 0xE1#32 with slot := some 0 } (withSlot .probeRead (busy garden))
     let t := after .linkBreak s
     s.link.inBreak = false ∧ s.Settled ∧ (∀ f ∈ s.link.replies, f.resets = false) ∧ t.link.inBreak = true ∧
       t.link.tx = s.link.tx ∧ t.link.slots = List.replicate 8 Slot.blank ∧
       (t.sched.entries.head?.map (·.detached)) = some true ∧ t.arb = s.arb ∧ t.supply = s.supply ∧ t.line = s.line) ∧
    (let req : Request := { origin := .link, slot := some 0, address := 1, replyAddr := some 1, op := .measure,
                            payload := [], subject := 0xE1#32, zone := 0, releaseAddr := none }
     let s := { garden with line := { garden.line with quietAllowed := true },
                            sched := { garden.sched with waits := [{ req := req, joinedAt := 0 }] } }
     let t := after .linkBreak s
     t.sched.waits = [] ∧ t.line = { s.line with state := .quiet } ∧
       t.supply = { s.supply with windowDiscard := true }) ∧
    (let s := { garden with link := { garden.link with inBreak := true } }
     (after .linkBreakEnd s).link.tx = some { kind := 0x40#8, tag := 0#8, payload := [2#8], resets := false } ∧
       (after .linkBreakEnd (busy s)).link.notices = [.ready .link]) ∧
    (let s := busy garden
     let s := { s with link := { s.link with inBreak := true, notices := [.ready .command] } }
     let t := after .linkBreakEnd s
     let u := after .hostFrameSent (after (.ident 1#8 []) t)
     s.link.inBreak = true ∧ s.link.replies = [] ∧ s.link.discards = 0 ∧ (∃ f, s.link.tx = some f ∧ f.resets = false) ∧
       t.link.notices = [.ready .command, .ready .link] ∧
       u.link.tx = some { kind := 0x40#8, tag := 0#8, payload := [1#8], resets := false } ∧
       (after .hostFrameSent u).link.tx = some { kind := 0x40#8, tag := 0#8, payload := [2#8], resets := false } ∧
       (after .hostFrameSent u).link.replies.length = 1) := by decide +kernel

theorem witness_PowerOnResetAndResetAllGiveTheResetState :
    (after .powerOnReset { watering with rainIn := .low }).hold.debounceEnd = some 2000 ∧
    (let s := { watering with link := { garden.link with tx := some { aReply with resets := true } } }
     (after .hostFrameSent s).link.tx = some { kind := 0x40#8, tag := 0#8, payload := [1#8], resets := false } ∧
       (after .hostFrameSent s).arb = Arbiter.reset) ∧
    (let s := { watering with link := { (busy garden).link with replies := [{ aReply with resets := true }] } }
     s.link.inBreak = false ∧ (∃ f ∈ s.link.replies, f.resets = true) ∧ (after .linkBreak s).link.inBreak = true ∧
       (after .linkBreak s).zones = State.reset.zones ∧
       s.link.tx ≠ none ∧ (after .linkBreak s).link.tx = s.link.tx ∧
       (after .hostFrameSent (after .linkBreak s)).link.tx =
         some { kind := 0x40#8, tag := 0#8, payload := [1#8], resets := false }) ∧
    (let s := { watering with link := { garden.link with replies := [{ aReply with resets := true }] } }
     s.link.inBreak = false ∧ s.link.tx = none ∧
       (after .linkBreak s).link.tx = some { kind := 0x40#8, tag := 0#8, payload := [1#8], resets := false }) ∧
    (garden.Takes [2#8] ∧ (after (.resetAll 1#8 [2#8]) garden).rdy = false ∧
      (after (.resetAll 1#8 [2#8]) watering).arb = watering.arb ∧
      after (.resetAll 1#8 [3#8]) garden = garden.replied 0x1F#8 1#8 .badField []) := by decide +kernel

/-! ## The plan clock and the grid -/

/-- A grid with a window of zones 1 and 2 and slots 46 and 47, the cursor at its first cell. -/
def windowed (order : GridOrder) (armed : Bool) : Grid :=
  { Grid.reset with zoneStart := 1, zoneEnd := 2, slotStart := 46, slotEnd := 47, order := order, curZone := 1,
                    curSlot := 46, swapArmed := armed, staging := [0] }

def griddy (order : GridOrder) (armed : Bool) : State := { garden with grid := windowed order armed }

theorem witness_SetTimeSetsTheClock :
    (garden.Takes [0#8, 5#8, 0x05#8, 0xA0#8] ∧
      after (.setTime 1#8 [0#8, 5#8, 0x05#8, 0xA0#8]) garden = garden.replied 0x03#8 1#8 .badField []) ∧
    (let s := griddy .acrossSlots true
     let t := after (.setTime 1#8 [0#8, 6#8, 0x05#8, 0x9F#8]) s
     s.clock.day ≤ 65535 ∧ t.clock = { s.clock with day := 6, minute := 1439, slot := 47 } ∧
       t.Answered (replyFrame 0x03#8 1#8 .ok [1#8, 1#8, 0#8, 1#8]) ∧
       t.grid = { s.grid with active := [0], swapArmed := false }) ∧
    (let t := after (.setTime 1#8 [0#8, 4#8, 0x02#8, 0x58#8]) garden
     t.Answered (replyFrame 0x03#8 1#8 .ok [0#8, 1#8, 0#8, 0#8])) ∧
    (let r := { bed with mode := .timed, estimate := none, channels := [], daysSinceRun := 253, runsToday := 8,
                         capped := true, cfg := { bed.cfg with timedIntervalDays := 14 } }
     let s := { garden with zones := zonesWith r }
     let t := after (.setTime 1#8 [0#8, 7#8, 0x02#8, 0x58#8]) s
     s.arb.runs = [] ∧ s.zones.length = 48 ∧ s.Settled ∧
       ((t.zone? 1).map fun r => (r.runsToday, r.daysSinceRun, r.capped, r.state)) = some (0, 255, false, .due) ∧
       ((t.zone? 48).map (·.daysSinceRun)) = some 2 ∧
       (t.arb.runs.map fun q => (q.zone, q.origin, q.totalS)) = [(1, .timed, 600)] ∧
       (let u := after (.setTime 1#8 [0#8, 5#8, 0x02#8, 0x58#8]) s
        u.zones = s.zones ∧ u.arb = s.arb)) ∧
    (let t := after (.setTime 1#8 [0#8, 7#8, 0x02#8, 0x76#8]) garden
     t.link = ((garden.link.queueReply (replyFrame 0x03#8 1#8 .ok [1#8, 1#8, 0#8, 2#8])).post (.slot 21 7 false)).post
       (.day 7 2)) := by decide +kernel

def atSecond (minute second : Nat) (s : State) : State :=
  { s with clock := { s.clock with minute := minute, second := second, slot := minute / 30 } }

theorem witness_SlotBoundaryStepsTheClockAndTheDay :
    (let s := atSecond 629 59 (griddy .acrossSlots true)
     let t := after .slotBoundary s
     s.Settled ∧ s.arb.runs = [] ∧ t.clock = { s.clock with second := 0, minute := 630, slot := 21 } ∧
       t.grid = { s.grid with active := [0], swapArmed := false } ∧ t.link = s.link.post (.slot 21 5 true) ∧
       t.zones = s.zones) ∧
    (let s := atSecond 629 58 garden
     after .slotBoundary s = s) ∧
    (let s := atSecond 1439 59 garden
     let r := { bed with mode := .timed, estimate := none, channels := [], daysSinceRun := 254, runsToday := 8,
                         capped := true, cfg := { bed.cfg with timedIntervalDays := 14 } }
     let u := { s with zones := zonesWith r }
     let t := after .slotBoundary u
     u.zones.length = 48 ∧ t.clock.day = 6 ∧ t.clock.minute = 0 ∧ t.clock.slot = 0 ∧
       (t.arb.runs.map fun q => (q.zone, q.origin, q.totalS, q.remainingS)) = [(1, .timed, 600, 600)] ∧
       ((t.zone? 1).map fun r => (r.runsToday, r.daysSinceRun, r.capped, r.state)) = some (0, 255, false, .due) ∧
       ((t.zone? 48).map (·.daysSinceRun)) = some 1) ∧
    (let s := atSecond 1439 59 (busy garden)
     (after .slotBoundary s).link.notices = [.slot 0 6 false, .day 6 1]) := by decide +kernel

/-- Slot 21 of zone 1 is BLOCKED, and the half hour before it ends now. -/
def beforeCut (s : State) : State := atSecond 629 59 { s with grid := { s.grid with active := [21] } }

theorem witness_SlotBoundaryStepsTheClockAndTheDay_cut :
    (let t := after .slotBoundary (beforeCut watering)
     t.run? 1 = some { openRun with state := .closing, remainingS := 540, destination := some .waiting } ∧
       (t.record? 1).map (fun x => (x.closeLimitAt, x.cycleEnd)) = some (some 120000, none)) ∧
    ((after .slotBoundary (beforeCut { watering with arb := { watering.arb with
        runs := [{ openRun with respectWindows := false }] } })).run? 1 =
      some { openRun with respectWindows := false }) ∧
    (let x := { record1 .notSent .notSent with openHanded := false }
     let s := beforeCut (busy (admitted opening x .lead garden))
     let t := after .slotBoundary s
     t.run? 1 = some run1 ∧ t.record? 1 = none ∧ t.arb.openCount = 0 ∧ t.link.notices = [.slot 21 5 false]) ∧
    (let s := beforeCut (admitted opening { record1 .openSent .notSent with inFlight := some (0, true) } .on garden)
     (after .slotBoundary s).run? 1 = some { opening with closePending := true, destination := some .waiting }) ∧
    (let q := { openRun with state := .closing, destination := some .soaking }
     let s := beforeCut (admitted q (record1 .closeSent .opened) .on garden)
     (after .slotBoundary s).run? 1 = some q) ∧
    (after .slotBoundary (beforeCut (owing run1 garden))).run? 1 = some run1 := by decide +kernel

theorem witness_SlotBoundaryStepsTheClockAndTheDay_budget : (beforeCut watering).BudgetOk := by
  refine ⟨by decide +kernel, by decide +kernel, by decide +kernel, ?_, fun z => Iff.rfl, ?_⟩
  · exact fun q h => ⟨{ bed with state := .active }, by rw [List.mem_singleton.mp h]; decide +kernel⟩
  · exact fun z h => ⟨openRun, by simp [beforeCut, atSecond, watering, admitted, owing],
      by rw [List.mem_singleton.mp h]; decide +kernel⟩

theorem witness_GridWindowSetsTheWindow :
    garden.Takes [1#8, 48#8, 0#8, 47#8, 1#8] ∧
    (let t := after (.gridWindow 1#8 [1#8, 48#8, 0#8, 47#8, 1#8]) garden
     t.grid = { garden.grid with order := .acrossZones } ∧ t.Answered (replyFrame 0x12#8 1#8 .ok [9#8, 0#8])) ∧
    (let t := after (.gridWindow 1#8 [48#8, 48#8, 47#8, 47#8, 0#8]) garden
     t.grid.curZone = 48 ∧ t.grid.curSlot = 47 ∧ t.Answered (replyFrame 0x12#8 1#8 .ok [0#8, 1#8])) ∧
    after (.gridWindow 1#8 [0#8, 48#8, 0#8, 47#8, 0#8]) garden = garden.replied 0x12#8 1#8 .badField [] ∧
    after (.gridWindow 1#8 [1#8, 49#8, 0#8, 47#8, 0#8]) garden = garden.replied 0x12#8 1#8 .badField [] ∧
    after (.gridWindow 1#8 [1#8, 48#8, 0#8, 48#8, 0#8]) garden = garden.replied 0x12#8 1#8 .badField [] ∧
    after (.gridWindow 1#8 [1#8, 48#8, 0#8, 47#8, 2#8]) garden = garden.replied 0x12#8 1#8 .badField [] := by
  decide +kernel

theorem witness_CursorStepsThroughTheWindow :
    (let g := windowed .acrossSlots false
     g.CursorOk ∧ (g.step.curZone, g.step.curSlot) = (1, 47) ∧ (g.step.step.curZone, g.step.step.curSlot) = (2, 46) ∧
       (Nat.repeat Grid.step 4 g) = g) ∧
    (let g := windowed .acrossZones false
     (g.step.curZone, g.step.curSlot) = (2, 46) ∧ (g.step.step.curZone, g.step.step.curSlot) = (1, 47) ∧
       (Nat.repeat Grid.step 4 g) = g) ∧
    (let s := griddy .acrossSlots false
     s.Takes [1#8] ∧ exec (.gridWrite 1#8 [1#8]) s = .next (after (.gridWrite 1#8 [1#8]) s) ∧
       s.Takes [1#8, 96#8] ∧ exec (.gridRead 1#8 [1#8, 96#8]) s = .next (after (.gridRead 1#8 [1#8, 96#8]) s)) ∧
    exec .flowPulse garden = .next (after .flowPulse garden) ∧ Instr.resets .flowPulse garden = false ∧
    Instr.bytewise .flowPulse garden = false ∧ Instr.resets .powerOnReset garden = true ∧
    (after .powerOnReset (griddy .acrossSlots false)).grid.curSlot = 0 := by
  refine ⟨⟨?_, ?_, ?_, ?_⟩, ?_, ⟨?_, rfl, ?_, rfl⟩, rfl, ?_, ?_, ?_, ?_⟩
  · unfold Grid.CursorOk; decide
  all_goals decide +kernel

theorem witness_GridWriteFillsStaging :
    (let s := griddy .acrossSlots false
     let p := [0#8, 0#8, 1#8, 1#8, 1#8]
     let t := after (.gridWrite 1#8 p) s
     s.Takes p ∧ Bank.isOpen t.grid.staging 1 46 = true ∧ Bank.isOpen t.grid.staging 1 47 = false ∧
       Bank.isOpen t.grid.staging 1 0 = false ∧ t.grid.active = [] ∧ (t.grid.curZone, t.grid.curSlot) = (1, 47) ∧
       t.Answered (replyFrame 0x13#8 1#8 .ok [1#8, 47#8])) ∧
    (let s := griddy .acrossSlots true
     s.Takes [1#8] ∧ after (.gridWrite 1#8 [1#8]) s = s.replied 0x13#8 1#8 .conflict []) ∧
    (let s := griddy .acrossSlots false
     s.grid.curZone = 1 ∧ after (.gridWrite 1#8 []) s = s.replied 0x13#8 1#8 .badField [] ∧
       after (.gridWrite 1#8 [2#8]) s = s.replied 0x13#8 1#8 .badField [] ∧
       after (.gridWrite 1#8 (List.replicate 97 1#8)) s = s.replied 0x13#8 1#8 .badField [] ∧
       (after (.gridWrite 1#8 (List.replicate 96 1#8)) s).grid = { s.grid with staging := [0] }) := by decide +kernel

theorem witness_GridReadTakesCellsFromTheCursor :
    (let s := { garden with grid := { windowed .acrossSlots false with active := [46, 95] } }
     let t := after (.gridRead 1#8 [0#8, 5#8]) s
     s.Takes [0#8, 5#8] ∧ t.grid = { s.grid with curSlot := 47 } ∧
       t.Answered (replyFrame 0x14#8 1#8 .ok [1#8, 47#8, 0#8, 1#8, 1#8, 0#8, 0#8]) ∧
       (after (.gridRead 1#8 [1#8, 96#8]) s).grid = s.grid ∧
       after (.gridRead 1#8 [2#8, 1#8]) s = s.replied 0x14#8 1#8 .badField [] ∧
       after (.gridRead 1#8 [0#8, 0#8]) s = s.replied 0x14#8 1#8 .badField [] ∧
       after (.gridRead 1#8 [0#8, 97#8]) s = s.replied 0x14#8 1#8 .badField []) := by decide +kernel

theorem witness_GridSwapArmsUntilABoundary :
    (let s := griddy .acrossSlots true
     s.Takes [] ∧ after (.gridSwap 1#8 []) s = s.replied 0x15#8 1#8 .ok [1#8] ∧ s.grid.swapArmed = true ∧
       (after .powerOnReset s).grid.swapArmed = false ∧ Instr.bytewise .flowPulse s = false ∧
       (after .flowPulse s).grid.swapArmed = true) ∧
    (let s := griddy .acrossSlots true
     let u := { s with clock := { s.clock with valid := false } }
     (after (.setTime 1#8 [0#8, 0#8, 0#8, 0#8]) u).grid.swapArmed = true ∧
       (after .slotBoundary (atSecond 29 59 s)).grid.active = [0] ∧
       (after .slotBoundary (atSecond 29 59 s)).grid.swapArmed = false ∧
       (let v := atSecond 29 58 s
        v.clock.slot = 0 ∧ v.Takes [0#8, 0#8, 0#8, 30#8] ∧ v.clock.valid = true ∧
          (after (.setTime 1#8 [0#8, 0#8, 0#8, 30#8]) v).grid.swapArmed = false)) := by decide +kernel

/-! ## Weather and holds -/

theorem witness_WeatherAndThresholdsAreJudged :
    (let p := [0x07#8, 0xD0#8, 100#8, 0xD8#8, 200#8, 250#8, 0x05#8, 0xA0#8]
     let t := after (.weather 1#8 p) garden
     garden.Takes p ∧ garden.hold.cfg.freezeOn < garden.hold.cfg.freezeOff ∧
       (t.hold.rainActive, t.hold.wind, t.hold.freeze) = (true, true, true) ∧ t.hold.factor = 250 ∧
       (t.hold.weather.map (·.validUntil)) = some 86500 ∧ t.Answered (replyFrame 0x04#8 1#8 .ok [7#8, 250#8])) ∧
    after (.weather 1#8 [0x07#8, 0xD1#8, 0#8, 0#8, 0#8, 0#8, 0#8, 10#8]) garden =
      garden.replied 0x04#8 1#8 .badField [] ∧
    after (.weather 1#8 [0#8, 0#8, 0#8, 0xD7#8, 0#8, 0#8, 0#8, 10#8]) garden =
      garden.replied 0x04#8 1#8 .badField [] ∧
    after (.weather 1#8 [0#8, 0#8, 0#8, 0#8, 0#8, 0#8, 0#8, 9#8]) garden = garden.replied 0x04#8 1#8 .badField [] ∧
    (let p := [0#8, 1#8, 1#8, 5#8, 0xF6#8, 0xF7#8, 0#8, 0#8]
     let w : Weather := { rainMmX10 := 1, rainProbPct := 0, tempC := 20, windKmh := 4, etFactorPct := 100,
                          validMin := 10, validUntil := 700 }
     let s := { garden with hold := { garden.hold with weather := some w } }
     let t := after (.holdConfig 1#8 p) s
     s.Takes p ∧ t.hold.cfg.freezeOn = -10 ∧ t.hold.rainActive = true ∧ t.hold.wind = false ∧
       t.hold.sources = { contact := false, observed := true, forecast := false } ∧
       (after (.holdConfig 1#8 p) garden).hold = { garden.hold with cfg := t.hold.cfg } ∧
       t.Answered (replyFrame 0x05#8 1#8 .ok [])) ∧
    after (.holdConfig 1#8 [0#8, 1#8, 1#8, 5#8, 4#8, 4#8, 0#8, 0#8]) garden =
      garden.replied 0x05#8 1#8 .badField [] := by decide +kernel

/-- A report of frost, rain and wind. -/
def frost : List Byte := [0x07#8, 0xD0#8, 100#8, 0xD8#8, 200#8, 250#8, 0x05#8, 0xA0#8]

/-- A report of rain without frost. -/
def rainy : List Byte := [0x07#8, 0xD0#8, 100#8, 20#8, 0#8, 100#8, 0x05#8, 0xA0#8]

theorem witness_WeatherAndThresholdsAreJudged_runs :
    (after (.weather 1#8 frost) (owing run1 garden)).arb.runs = [] ∧
    ((after (.weather 1#8 frost) watering).run? 1 =
      some { openRun with state := .closing, remainingS := 540, destination := some .frozen }) ∧
    ((after (.weather 1#8 rainy) (owing run1 garden)).run? 1 =
      some { run1 with state := .suspended, suspHold := true }) ∧
    ((after (.weather 1#8 rainy) watering).run? 1 =
      some { openRun with state := .closing, remainingS := 540, destination := some .suspended }) ∧
    (let x := { record1 .notSent .notSent with openHanded := false }
     let t := after (.weather 1#8 rainy) (admitted opening x .lead garden)
     t.run? 1 = some { run1 with state := .suspended, suspHold := true } ∧ t.record? 1 = none) ∧
    (let q := { openRun with origin := .manual }
     let s := { watering with arb := { watering.arb with runs := [q] } }
     (after (.weather 1#8 rainy) s).run? 1 = some q ∧
       ((after (.weather 1#8 frost) s).run? 1).map (·.destination) = some (some .frozen)) ∧
    (let w : Weather := { rainMmX10 := 1, rainProbPct := 0, tempC := 20, windKmh := 4, etFactorPct := 100,
                          validMin := 10, validUntil := 700 }
     let s := owing run1 { garden with hold := { garden.hold with weather := some w } }
     (after (.holdConfig 1#8 [0#8, 1#8, 1#8, 5#8, 0xF6#8, 0xF7#8, 0#8, 0#8]) s).run? 1 =
       some { run1 with state := .suspended, suspHold := true }) := by decide +kernel

/-- Rain, wind and frost are on, on a report that ends now, and RAIN of the forecast alone. -/
def stormy : HoldUnit :=
  let w : Weather := { rainMmX10 := 0, rainProbPct := 90, tempC := -1, windKmh := 50, etFactorPct := 150,
                       validMin := 10, validUntil := 100 }
  { HoldUnit.reset with weather := some w, rainActive := true, wind := true, freeze := true,
                        sources := { contact := false, observed := false, forecast := true } }

theorem witness_WeatherAndThresholdsAreJudged_notices :
    (let t := after (.weather 1#8 frost) garden
     garden.arb.runs = [] ∧ garden.Settled ∧
       t.link = (garden.link.queueReply (replyFrame 0x04#8 1#8 .ok [7#8, 250#8])).postAll
         [.holdEvent .freeze .start none none,
          .holdEvent .rain .start (some { contact := false, observed := true, forecast := true }) none,
          .holdEvent .wind .start none none]) ∧
    (let s := { garden with hold := { stormy with sources := { contact := false, observed := true, forecast := true } } }
     let none3 : RainSources := { contact := false, observed := false, forecast := false }
     (after (.weather 1#8 [0#8, 0#8, 0#8, 4#8, 0#8, 100#8, 0#8, 10#8]) s).link =
       (s.link.queueReply (replyFrame 0x04#8 1#8 .ok [1#8, 100#8])).postAll
         [.holdEvent .freeze .ended none none, .holdEvent .rain .releasing (some none3) (some 240),
          .holdEvent .wind .ended none none]) ∧
    (let s := { garden with hold := { stormy with sources := { contact := false, observed := false, forecast := false },
                                                  releaseEnd := some 500, wind := false } }
     s.hold.starts (after (.holdConfig 1#8 [0#8, 1#8, 1#8, 5#8, 0xF6#8, 0xF7#8, 0#8, 0#8]) s).hold =
         [.holdEvent .rain .resumed (some { contact := false, observed := false, forecast := true }) none,
          .holdEvent .wind .start none none] ∧
       (after (.holdConfig 1#8 [0#8, 1#8, 1#8, 5#8, 0xF6#8, 0xF7#8, 0#8, 0#8]) s).link =
         (s.link.queueReply (replyFrame 0x05#8 1#8 .ok [])).postAll
           [.holdEvent .rain .resumed (some { contact := false, observed := false, forecast := true }) none,
            .holdEvent .wind .start none none]) := by decide +kernel

def underManual (minutes : Option Nat) (s : State) : State :=
  { s with hold := { s.hold with manual := true, manualEnd := minutes } }

theorem witness_ManualHoldStartsAndEnds :
    (let t := after (.holdSet 1#8 [0x27#8, 0x60#8]) garden
     garden.Takes [0x27#8, 0x60#8] ∧ garden.Settled ∧ t.hold = { garden.hold with manual := true,
                                                                                  manualEnd := some 604900 } ∧
       t.link = (garden.link.queueReply (replyFrame 0x06#8 1#8 .ok [0x27#8, 0x60#8])).post
         (.holdEvent .manual .start none (some 10080))) ∧
    after (.holdSet 1#8 [0x27#8, 0x61#8]) garden = garden.replied 0x06#8 1#8 .badField [] ∧
    (let s := owing run1 garden
     (after (.holdSet 1#8 [0#8, 0#8]) s).arb = { s.arb with runs := [{ run1 with state := .suspended, suspHold := true }] }) ∧
    (let s := underManual (some 160) garden
     (after (.holdSet 1#8 [0#8, 0#8]) s).hold = { s.hold with manualEnd := none } ∧
       (after (.holdSet 1#8 [0#8, 0#8]) s).link = garden.link.queueReply (replyFrame 0x06#8 1#8 .ok [0#8, 0#8])) ∧
    (let q := { run1 with state := .suspended, suspHold := true }
     let s := lineAt .off none (underManual (some 100) (owing q garden))
     let r := { s with hold := { s.hold with rainActive := true } }
     s.Takes [] ∧ (after (.holdClear 1#8 []) s).arb = { s.arb with runs := [run1] } ∧
       (after .manualHoldExpiry s).arb = { s.arb with runs := [run1] } ∧ (after .manualHoldExpiry r).arb = r.arb ∧
       (after .manualHoldExpiry r).hold = { r.hold with manual := false, manualEnd := none }) ∧
    ((after (.holdClear 1#8 []) (underManual none garden)).link =
      (garden.link.queueReply (replyFrame 0x07#8 1#8 .ok [])).post (.holdEvent .manual .ended none none)) ∧
    ((after .manualHoldExpiry (underManual (some 100) garden)).link =
      garden.link.post (.holdEvent .manual .ended none none)) ∧
    after (.holdClear 1#8 []) garden = garden.replied 0x07#8 1#8 .conflict [] ∧
    after .manualHoldExpiry (underManual (some 101) garden) = underManual (some 101) garden ∧
    after .manualHoldExpiry (underManual none garden) = underManual none garden := by decide +kernel

theorem witness_RainContactIsDebounced :
    (after (.rainInChange .low) garden =
      { garden with rainIn := .low, hold := { garden.hold with debounceEnd := some 102000 } }) ∧
    (let s := { garden with rainIn := .low, hold := { garden.hold with debounceEnd := some 100000 } }
     after (.rainInChange .high) s = garden ∧ after (.rainInChange .low) s = s ∧
       (after .debounceExpiry s).hold =
         { garden.hold with contactClosed := true, rainActive := true,
                            sources := { contact := true, observed := false, forecast := false } } ∧
       s.arb.runs = [] ∧ s.Settled ∧ (after .debounceExpiry s).link = s.link.post
         (.holdEvent .rain .start (some { contact := true, observed := false, forecast := false }) none)) ∧
    (let s := { garden with rainIn := .low, hold := { garden.hold with debounceEnd := some 100001 } }
     after .debounceExpiry s = s) ∧
    (let s := { owing run1 garden with rainIn := .low, hold := { garden.hold with debounceEnd := some 100000 } }
     (after .debounceExpiry s).run? 1 = some { run1 with state := .suspended, suspHold := true }) := by decide +kernel

theorem witness_RainContactIsDebounced_holds : garden.hold.Ok := witness_StepsKeep_holds.1

/-- The contact has opened, and RAIN is released in 4 hours. -/
theorem test_rain_releases :
    let h := { garden.hold with contactClosed := true, rainActive := true, debounceEnd := some 100000,
                                sources := { contact := true, observed := false, forecast := false } }
    (after .debounceExpiry { garden with hold := h }).hold =
        { garden.hold with rainActive := true, releaseEnd := some 14500 } ∧
      (after .debounceExpiry { garden with hold := h }).link = garden.link.post (.holdEvent .rain .releasing
        (some { contact := false, observed := false, forecast := false }) (some 240)) := by decide +kernel

theorem witness_RainReleaseAndReportExpire :
    (let s := { garden with hold := { garden.hold with rainActive := true, releaseEnd := some 100 } }
     (after .releaseExpiry s).hold = garden.hold ∧ s.arb.runs = [] ∧ s.Settled ∧
       (after .releaseExpiry s).link = s.link.post
         (.holdEvent .rain .ended (some { contact := false, observed := false, forecast := false }) none) ∧
       (let u := { s with hold := { s.hold with releaseEnd := some 101 } }
        after .releaseExpiry u = u)) ∧
    (let s := { garden with hold := stormy }
     (after .weatherStale s).hold = { garden.hold with freeze := true } ∧
       (after .weatherStale s).link = (s.link.post (.weatherStale true)).postAll
         [.holdEvent .rain .ended (some { contact := false, observed := false, forecast := false }) none,
          .holdEvent .wind .ended none none] ∧
       (let u := { garden with clock := { garden.clock with uptime := 99 }, hold := stormy }
        after .weatherStale u = u)) ∧
    after .weatherStale garden = garden ∧ after .releaseExpiry garden = garden := by decide +kernel

/-! ## The master valve and flow supervision -/

/-- The flow meter gives 60 pulses for 10 L, and a window of 10 s with so many pulses has ended. -/
def metered (pulses : Nat) (s : State) : State :=
  { s with supply := { s.supply with pulsesPer10L := 60, windowPulses := pulses, windowEnd := 100 } }

theorem witness_SupplySetReplacesTheSettings :
    (let p := [0#8, 60#8, 4#8, 60#8, 2#8, 0x58#8, 3#8, 0xE8#8, 100#8, 200#8]
     let t := after (.supplySet 1#8 p) garden
     garden.Takes p ∧ t.supply = { garden.supply with
       cap := 60, maxOpen := 4, leadS := 60, lagS := 600, pulsesPer10L := 1000, tolerancePct := 100,
       leakThreshold := 200, windowDiscard := true } ∧ t.Answered (replyFrame 0x08#8 1#8 .ok []) ∧
       after (.supplySet 1#8 p) watering = watering.replied 0x08#8 1#8 .conflict []) ∧
    after (.supplySet 1#8 [0#8, 59#8, 1#8, 0#8, 0#8, 0#8, 0#8, 0#8, 10#8, 1#8]) garden =
      garden.replied 0x08#8 1#8 .badField [] ∧
    after (.supplySet 1#8 [0#8, 60#8, 5#8, 0#8, 0#8, 0#8, 0#8, 0#8, 10#8, 1#8]) garden =
      garden.replied 0x08#8 1#8 .badField [] ∧
    (let s := { garden with supply := { garden.supply with highCount := 1, lowAlarmed := true } }
     let t := after (.supplySet 1#8 [0#8, 200#8, 1#8, 5#8, 0#8, 30#8, 0#8, 0#8, 30#8, 20#8]) s
     t.supply = { s.supply with windowDiscard := true }) := by decide +kernel

theorem witness_SupplyGetReportsTheRecord :
    watering.Takes [] ∧ watering.mvOut = true ∧
    after (.supplyGet 1#8 []) watering = watering.replied 0x09#8 1#8 .ok
      [0#8, 200#8, 1#8, 5#8, 0#8, 30#8, 0#8, 0#8, 30#8, 20#8, 2#8, 0xFF#8, 1#8, 0xFF#8, 0xFF#8, 0#8, 60#8, 1#8, 0#8,
        60#8, 0xFF#8, 0xFF#8, 0#8, 0#8, 0#8, 0#8, 0#8] := by decide +kernel

def tripped (s : State) : State := { s with supply := { s.supply with state := .tripped, tripCause := some .leak } }

theorem witness_TripIsLeftOnlyByTripClear :
    (let s := tripped garden
     let t := after (.tripClear 1#8 []) s
     s.Takes [] ∧ s.Settled ∧ t.supply = { garden.supply with windowDiscard := true } ∧ t.mvOut = false ∧
       t.link = (s.link.queueReply (replyFrame 0x0A#8 1#8 .ok [])).post (.supplyEvent .cleared none none) ∧
       Instr.bytewise .flowPulse s = false ∧ (after .flowPulse s).supply.tripCause = some .leak) ∧
    after (.tripClear 1#8 []) garden = garden.replied 0x0A#8 1#8 .conflict [] ∧
    after (.tripClear 1#8 []) (tripped watering) = (tripped watering).replied 0x0A#8 1#8 .conflict [] := by
  decide +kernel

/-- The supply is in LEAD or LAG, and its timer ends now. -/
def timed (st : SupplyState) (s : State) : State :=
  { s with supply := { s.supply with state := st, timerEnd := some 100 } }

theorem witness_LeadAndLagExpire :
    (let s := timed .lead garden
     (after .leadExpiry s).supply = { s.supply with state := .lag, timerEnd := some 130, windowDiscard := true } ∧
       (let u := { s with supply := { s.supply with lagS := 0 } }
        (after .leadExpiry u).supply.state = .idle)) ∧
    (let s := timed .lag garden
     (after .lagExpiry s).supply = { garden.supply with windowDiscard := true } ∧
       (let u := { s with supply := { s.supply with timerEnd := some 101 } }
        after .lagExpiry u = u ∧ after .leadExpiry u = u)) ∧
    (let x := { record1 .notSent .notSent with openHanded := false }
     let s := timed .lead (admitted opening x .lead garden)
     let t := after .leadExpiry s
     s.Settled ∧ s.sched.entries.length = 16 ∧ (∃ y ∈ s.sched.entries, y.state = .free) ∧ 0 < s.arb.openCount ∧
       t.supply.state = .on ∧ t.seqr.records = [{ record1 .openSent .notSent with inFlight := some (0, true) }] ∧
       (t.sched.entries.head?.map fun e => (e.state, e.op, e.address, e.payload)) =
         some (.sent, .opn, 2, [1#8])) := by decide +kernel

theorem witness_FlowIsMeasuredJudgedAndActedOn :
    (after .flowPulse garden = garden ∧ (after .flowPulse (metered 65535 garden)) = metered 65535 garden ∧
      (after .flowPulse (metered 7 garden)) = metered 8 garden) ∧
    (let s := { metered 7 garden with supply := { (metered 7 garden).supply with windowEnd := 101 } }
     after .flowWindowEnd s = s) ∧
    (let s := { garden with supply := { garden.supply with windowEnd := 100 } }
     (after .flowWindowEnd s).supply = { s.supply with windowEnd := 110 }) ∧
    (let s := metered 6 watering
     let t := after .flowWindowEnd s
     s.Settled ∧ t.supply = { s.supply with windowPulses := 0, windowEnd := 110, lastFlow := some 60, lastKept := true }) ∧
    (let s := metered 8 watering
     (after .flowWindowEnd s).supply.highCount = 1 ∧
       (let u := { s with supply := { s.supply with highCount := 1 } }
        let t := after .flowWindowEnd u
        t.supply.highCount = 0 ∧ (t.run? 1).map (fun q => (q.state, q.destination)) =
          some (.closing, some (.fault .highFlow)))) ∧
    (let s := metered 4 watering
     (after .flowWindowEnd s).supply.lowCount = 1 ∧
       (let u := { s with supply := { s.supply with lowCount := 2 } }
        (after .flowWindowEnd u).supply.lowCount = 0 ∧
          ((after .flowWindowEnd u).run? 1).map (fun q => (q.state, q.destination)) =
            some (.closing, some (.fault .noFlow)))) ∧
    (let s := metered 2 garden
     (after .flowWindowEnd s).supply.leakCount = 1 ∧
       (let u := { s with supply := { s.supply with leakCount := 2 } }
        (after .flowWindowEnd u).supply.state = .tripped ∧
          (after .flowWindowEnd u).link = u.link.post (.supplyEvent .trip (some .leak) (some .idle)))) ∧
    (let s := metered 9 { garden with supply := { garden.supply with state := .on, highCount := 1 } }
     (after .flowWindowEnd s).supply.tripCause = some .highFlowMain) ∧
    (let s := metered 9 { garden with supply := { garden.supply with windowDiscard := true } }
     (after .flowWindowEnd s).supply.lastKept = false ∧ (after .flowWindowEnd s).supply.leakCount = 0) := by
  decide +kernel

/-- Two runs are OPEN, and the flow is low. -/
theorem witness_FlowIsMeasuredJudgedAndActedOn_alarm :
    let s := metered 4 watering
    let u := { s with arb := { s.arb with openOrder := [1, 2] }, supply := { s.supply with lowCount := 2 } }
    let t := after .flowWindowEnd u
    t.supply.lowAlarmed = true ∧ t.arb = u.arb ∧ t.link = u.link.post (.flowAlarm 40 60 2) ∧
      (after .flowWindowEnd { u with supply := { u.supply with lowAlarmed := true } }).link = u.link := by decide +kernel

/-! ## Zones -/

/-- The payload of a ZONE_SET with these five fields, the others in range. -/
def zonePayload (zone enabled high nominal : Nat) : List Byte :=
  [BitVec.ofNat 8 zone, BitVec.ofNat 8 enabled, 1#8, 0x2C#8] ++ u16 high ++ [6#8, 7#8, 8#8, 0#8, 0#8, 3#8, 0x84#8, 60#8] ++
    u16 nominal ++ [2#8, 0#8, 2#8, 0x58#8]

theorem witness_ZoneSetConfiguresTheZone :
    (let p := zonePayload 1 1 600 200
     let t := after (.zoneSet 1#8 p) garden
     garden.Takes p ∧ p.length = 20 ∧ garden.run? 1 = none ∧ garden.Settled ∧ t.Answered (replyFrame 0x0B#8 1#8 .ok []) ∧
       t.zones = zonesWith { bed with cfg := { bed.cfg with nominalFlow := 200 } } ∧ t.arb = garden.arb) ∧
    (let s := { garden with poller := { garden.poller with
       channels := some { channel1 with lastWetness := some 299 } :: List.replicate 31 none } }
     let t := after (.zoneSet 1#8 (zonePayload 1 1 600 60)) s
     (t.zone? 1).map (·.state) = some .due ∧ t.arb.runs.map (fun q => (q.zone, q.totalS)) = [(1, 1800)]) ∧
    (let t := after (.zoneSet 1#8 (zonePayload 1 0 600 60)) garden
     (t.zone? 1).map (·.state) = some .unmapped) ∧
    (let t := after (.zoneSet 1#8 (zonePayload 48 1 600 60)) garden
     (t.zone? 48).map (fun r => (r.state, r.cfg.enabled)) = some (.unmapped, true)) ∧
    after (.zoneSet 1#8 (zonePayload 49 1 600 60)) garden = garden.replied 0x0B#8 1#8 .badField [] ∧
    after (.zoneSet 1#8 (zonePayload 1 1 300 60)) garden = garden.replied 0x0B#8 1#8 .badField [] ∧
    after (.zoneSet 1#8 (zonePayload 1 1 600 201)) garden = garden.replied 0x0B#8 1#8 .badField [] ∧
    after (.zoneSet 1#8 (zonePayload 1 1 600 60)) watering = watering.replied 0x0B#8 1#8 .conflict [] ∧
    (let s := { garden with zones := zonesWith { bed with state := .faulted, faultReason := some .stuck } }
     (after (.zoneSet 1#8 (zonePayload 1 1 600 60)) s).zones = s.zones) ∧
    (let s := { garden with zones := zonesWith { bed with state := .settling, settleEnd := some 200 } }
     (after (.zoneSet 1#8 (zonePayload 1 1 600 60)) s).zones = s.zones) := by decide +kernel

/-- The payload of a ZONE_MAP. -/
def mapPayload (zone : Byte) (outs chans : List Ref) : List Byte :=
  let refs (l : List Ref) : List Byte := BitVec.ofNat 8 l.length :: l.flatMap refBytes
  [zone] ++ refs outs ++ refs chans

def unknownValve : Ref := { serial := 0x55#32, num := 1 }

theorem witness_ZoneMapReplacesTheLists :
    (let p := mapPayload 2#8 [{ valve1 with num := 3 }, { valve1 with num := 4 }] [{ serial := 0xE1#32, num := 3 }]
     let t := after (.zoneMap 1#8 p) garden
     garden.Takes p ∧ garden.zones.length = 48 ∧ garden.run? 2 = none ∧ t.Answered (replyFrame 0x0D#8 1#8 .ok []) ∧
       (t.zone? 2).map (fun r => (r.outputs.length, r.channels.length, r.mode, r.state)) =
         some (2, 1, .sensed, .unmapped)) ∧
    (let t := after (.zoneMap 1#8 (mapPayload 1#8 [] [])) garden
     (t.zone? 1).map (fun r => (r.state, r.mode, r.estimate)) = some (.unmapped, .timed, none)) ∧
    after (.zoneMap 1#8 (mapPayload 1#8 [{ valve1 with num := 5 }] [])) garden =
      garden.replied 0x0D#8 1#8 .badField [] ∧
    after (.zoneMap 1#8 (mapPayload 1#8 [valve1, valve1] [])) garden = garden.replied 0x0D#8 1#8 .badField [] ∧
    after (.zoneMap 1#8 (mapPayload 1#8 [valve1] [])) watering = watering.replied 0x0D#8 1#8 .conflict [] ∧
    after (.zoneMap 1#8 (mapPayload 2#8 [unknownValve] [])) garden = garden.replied 0x0D#8 1#8 .notEnrolled [] ∧
    after (.zoneMap 1#8 (mapPayload 2#8 [valve1] [])) garden = garden.replied 0x0D#8 1#8 .conflict [] ∧
    (let s := { garden with devs := { garden.devs with
       table := some { decoder with count := some 2 } :: some probe :: List.replicate 38 none } }
     after (.zoneMap 1#8 (mapPayload 2#8 [{ valve1 with num := 3 }] [])) s = s.replied 0x0D#8 1#8 .badField []) := by
  decide +kernel

theorem witness_ZoneGetReportsTheRecord :
    garden.Takes [1#8] ∧ garden.zones.length = 48 ∧
    after (.zoneGet 1#8 [1#8]) garden = garden.replied 0x0C#8 1#8 .ok
      ([1#8, 1#8, 1#8, 0x2C#8, 2#8, 0x58#8, 6#8, 7#8, 8#8, 0#8, 0#8, 3#8, 0x84#8, 60#8, 0#8, 60#8, 2#8, 0#8, 2#8, 0x58#8,
        2#8, 0#8, 0#8, 0#8, 0xD1#8, 1#8, 0#8, 0#8, 0#8, 0xD1#8, 2#8, 1#8, 0#8, 0#8, 0#8, 0xE1#8, 1#8, 1#8, 0#8, 1#8,
        0x5E#8, 0#8, 0#8, 0xFF#8, 0#8, 0xFF#8, 0xFF#8, 0xFF#8, 0xFF#8]) ∧
    after (.zoneGet 1#8 [0#8]) garden = garden.replied 0x0C#8 1#8 .badField [] ∧
    after (.zoneGet 1#8 [49#8]) garden = garden.replied 0x0C#8 1#8 .badField [] ∧
    (after (.zoneGet 1#8 [48#8]) garden).link.tx.map (fun f => f.payload.length) = some 35 := by decide +kernel

theorem witness_FaultClearAndSettleExpiryReturnTheZone :
    (let s := { garden with zones := zonesWith { bed with state := .faulted, faultReason := some .stuck } }
     let t := after (.faultClear 1#8 [1#8]) s
     s.Takes [1#8] ∧ s.Settled ∧ t.zones = zonesWith bed ∧
       t.link = (s.link.queueReply (replyFrame 0x0E#8 1#8 .ok [])).post
         (.zoneState 1 .monitor none (some 350) false false)) ∧
    after (.faultClear 1#8 [1#8]) garden = garden.replied 0x0E#8 1#8 .conflict [] ∧
    after (.faultClear 1#8 [49#8]) garden = garden.replied 0x0E#8 1#8 .badField [] ∧
    (let s := { garden with zones := zonesWith { bed with state := .settling, settleEnd := some 100 } }
     (after (.settleExpiry 1) s).zones = zonesWith bed ∧ s.run? 1 = none) ∧
    (let s := { garden with zones := zonesWith { bed with state := .settling, settleEnd := some 101 } }
     after (.settleExpiry 1) s = s) ∧
    (let s := { garden with
       zones := zonesWith { bed with state := .settling, settleEnd := some 100, estimate := some 299 } }
     ((after (.settleExpiry 1) s).zone? 1).map (·.state) = some .due) := by decide +kernel

/-! ## Runs and valves -/

theorem witness_EnqueueKeepsTheQueueInOrder :
    (let a : Arbiter := { Arbiter.reset with runs := [run1], nextSeq := 1 }
     (∀ q ∈ a.runs, q.seq < a.nextSeq) ∧
       ((a.enqueue { run1 with zone := 2, origin := .manual }).runs.map fun q => (q.zone, q.seq)) = [(2, 1), (1, 0)]) ∧
    (let a : Arbiter := { Arbiter.reset with runs := [run1], nextSeq := 4294967295 }
     (∀ q ∈ a.runs, q.seq < a.nextSeq) ∧ (a.enqueue { run1 with zone := 2 }).nextSeq = 2 ∧
       ((a.enqueue { run1 with zone := 2 }).runs.map fun q => (q.zone, q.seq)) = [(1, 0), (2, 1)]) := by decide +kernel

theorem witness_EnqueueKeepsTheQueueInOrder_pairwise (ahead : Run → Run → Prop) : [run1].Pairwise ahead :=
  List.pairwise_singleton _ _

theorem witness_RunNowEnqueuesAManualRun :
    (let s := lineAt .off none garden
     let t := after (.runNow 1#8 [1#8, 0x1C#8, 0x20#8, 0#8, 1#8]) s
     s.Takes [1#8, 0x1C#8, 0x20#8, 0#8, 1#8] ∧ s.run? 1 = none ∧ s.arb.nextSeq < 4294967295 ∧ s.Settled ∧
       t.arb.runs = [{ run1 with origin := .manual, totalS := 7200, remainingS := 7200, split := false,
                                 enqueuedAt := 100 }] ∧
       t.Answered (replyFrame 0x0F#8 1#8 .ok [0#8, 0#8, 0#8, 0#8, 0#8]) ∧ (t.zone? 1).map (·.state) = some .due) ∧
    (let s := underManual none garden
     let t := after (.runNow 1#8 [1#8, 0#8, 1#8, 1#8]) s
     t.arb.runs.map (fun q => (q.state, q.suspHold, q.respectWindows)) = [(.suspended, true, false)]) ∧
    after (.runNow 1#8 [1#8, 0#8, 0#8, 1#8]) garden = garden.replied 0x0F#8 1#8 .badField [] ∧
    after (.runNow 1#8 [1#8, 0x1C#8, 0x21#8, 1#8]) garden = garden.replied 0x0F#8 1#8 .badField [] ∧
    after (.runNow 1#8 [49#8, 0#8, 1#8, 1#8]) garden = garden.replied 0x0F#8 1#8 .badField [] ∧
    after (.runNow 1#8 [1#8, 0#8, 1#8, 2#8]) garden = garden.replied 0x0F#8 1#8 .badField [] ∧
    after (.runNow 1#8 [1#8, 0#8, 1#8, 1#8, 2#8]) garden = garden.replied 0x0F#8 1#8 .badField [] ∧
    after (.runNow 1#8 [2#8, 0#8, 1#8, 1#8]) garden = garden.replied 0x0F#8 1#8 .conflict [] ∧
    after (.runNow 1#8 [1#8, 0#8, 1#8, 1#8]) watering = watering.replied 0x0F#8 1#8 .conflict [] ∧
    after (.runNow 1#8 [1#8, 0#8, 1#8, 1#8]) (tripped garden) = (tripped garden).replied 0x0F#8 1#8 .conflict [] := by
  decide +kernel

theorem witness_CancelsStopRunsByTheirState :
    (let s := owing run1 (lineAt .off none garden)
     let t := after (.cancelRun 1#8 [1#8]) s
     s.Takes [1#8] ∧ s.zones.length = 48 ∧ s.Settled ∧ t.arb.runs = [] ∧ (t.zone? 1).map (·.state) = some .monitor ∧
       t.Answered (replyFrame 0x10#8 1#8 .ok [0#8])) ∧
    after (.cancelRun 1#8 [1#8]) garden = garden.replied 0x10#8 1#8 .conflict [] ∧
    after (.cancelRun 1#8 [0#8]) garden = garden.replied 0x10#8 1#8 .badField [] ∧
    (let s := admitted opening { record1 .openSent .notSent with inFlight := some (0, true) } .on garden
     ((after (.cancelRun 1#8 [1#8]) s).run? 1) =
       some { opening with closePending := true, destination := some .cancelled }) ∧
    (let t := after (.cancelRun 1#8 [1#8]) watering
     t.run? 1 = some { openRun with state := .closing, remainingS := 540, destination := some .cancelled } ∧
       (t.record? 1).map (fun x => (x.closeLimitAt, x.cycleEnd)) = some (some 120000, none)) ∧
    (let s := admitted { openRun with state := .closing, destination := some .soaking } (record1 .closeSent .opened) .on
       garden
     (after (.cancelRun 1#8 [1#8]) s).run? 1 =
       some { openRun with state := .closing, destination := some .cancelled }) ∧
    (let s := owing run1 (lineAt .off none garden)
     let t := after (.cancelAll 1#8 []) s
     t.arb = { s.arb with runs := [] } ∧ t.Answered (replyFrame 0x11#8 1#8 .ok [1#8]) ∧
       (let u := after (.resetPlan 1#8 [0#8]) (underManual (some 500) s)
        u.arb.runs = [] ∧ u.hold = garden.hold ∧ (u.zones.all fun r => r.daysSinceRun = 0) = true)) := by decide +kernel

theorem witness_ScanAdmitsInQueueOrder :
    (let s := owing run1 garden
     s.scan.arb = { s.arb with runs := [opening], flowSum := 60, openCount := 1 } ∧
       s.scan.supply = { s.supply with state := .lead, timerEnd := some 105, windowDiscard := true } ∧
       s.scan.seqr.records = [{ record1 .notSent .notSent with openHanded := false }]) ∧
    (let s := owing run1 (lineAt .quiet none garden)
     s.scan.arb = s.arb ∧ s.scan.line = { s.line with state := .waking, stateEnd := some 100300 }) ∧
    (let s := owing run1 { garden with supply := { garden.supply with cap := 59 } }
     s.scan.arb = s.arb) ∧
    (let a := { run1 with skipCount := 7 }
     let b := { run1 with zone := 2, seq := 1 }
     let s := { garden with
       arb := { Arbiter.reset with runs := [a, b], nextSeq := 2, flowSum := 100 },
       zones := { bed with state := .due, cfg := { bed.cfg with nominalFlow := 101 } } ::
         { bed with state := .due, outputs := [{ valve1 with num := 3 }] } :: List.replicate 46 Zone.reset }
     s.eligibleBut a = true ∧ s.eligibleBut b = true ∧ s.fits 1 = false ∧ s.fits 2 = true ∧
       s.scan.arb.runs = [{ a with skipCount := 8, blocking := true }, { b with state := .opening }] ∧
       (let u := { s with arb := { s.arb with runs := [{ a with blocking := true }, b] } }
        u.scan.arb = u.arb)) := by decide +kernel

theorem witness_RunTimersExpire :
    (let s := owing { run1 with enqueuedAt := 0 } (lineAt .off none
       { garden with clock := { garden.clock with uptime := 86400 } })
     let t := after (.runExpiry 1) s
     s.run? 1 = some { run1 with enqueuedAt := 0 } ∧ t.arb.runs = [] ∧
       t.link = (s.link.post (.runDone 1 .auto .expired 0)).post (.zoneState 1 .monitor none (some 350) false false) ∧
       (let u := { s with clock := { s.clock with uptime := 86399 } }
        after (.runExpiry 1) u = u)) ∧
    after (.runExpiry 1) watering = watering ∧
    (let t := after (.cycleTimerExpiry 1) watering
     t.run? 1 = some { openRun with state := .closing, remainingS := 540, destination := some .soaking } ∧
       t.supply.windowDiscard = true) ∧
    (let s := admitted { openRun with remainingS := 60 } ((watering.seqr.records.head?).getD (record1 .closed .closed)) .on
       garden
     ((after (.cycleTimerExpiry 1) s).run? 1).map (·.destination) = some (some .complete)) ∧
    (let s := { watering with clock := { watering.clock with uptime := 99 } }
     after (.cycleTimerExpiry 1) s = s) ∧
    (let q := { openRun with state := .soaking, soakEnd := some 100, cycleS := none }
     let s := owing q (lineAt .off none garden)
     (after (.soakExpiry 1) s).run? 1 = some { q with state := .waiting, soakEnd := none } ∧
       (let u := { s with clock := { s.clock with uptime := 99 } }
        after (.soakExpiry 1) u = u)) := by decide +kernel

theorem witness_CloseLimitTakesTheStuckPath :
    (let s := admitted { openRun with state := .closing, destination := some .soaking }
       { record1 .closed .opened with closeLimitAt := some 100000 } .on garden
     let t := after (.closeLimitExpiry 1) s
     s.arb.runs.length = 1 ∧ s.sched.waits = [] ∧ 3 ≤ s.sched.entries.countP (·.state = .free) ∧ t.arb.runs = [] ∧
       t.record? 1 = none ∧ (t.zone? 1).map (fun r => (r.state, r.faultReason)) = some (.faulted, some .stuck) ∧
       t.supply.state = .tripped ∧ t.supply.tripCause = some .stuck ∧ t.mvOut = false ∧
       t.sched.entries.countP (fun y => y.state ≠ .free ∧ y.origin = .valve ∧ y.op = .allClose) = 3 ∧
       (let u := { s with timeBase := 99999 }
        after (.closeLimitExpiry 1) u = u)) := by decide +kernel

/-! ## Soil sensing -/

/-- A poll of the probe is with the Scheduler: its MEASURE has been sent and awaits its reply. -/
def polling : State :=
  let s := inTurn .awaiting (some 100010) none (asking (entryOf .poll .measure 1 0xE1#32) garden)
  { s with poller := { s.poller with
      polls := [{ poll1 with state := .inFlight, nextPoll := none, entry := some (0, true) }] } }

/-- The judgement of a raw count on the calibration of section 7.2's example. -/
def judged (raw : Nat) : Quality × Option Nat :=
  let r := Channel.measure 100 15 (u16 raw) channel1
  (r.quality, r.lastWetness)

theorem witness_ReadingsAreJudged :
    judged 0 = (.sensorFault, none) ∧ judged 4095 = (.sensorFault, none) ∧ judged 34768 = (.sensorFault, none) ∧
    judged 999 = (.outOfRange, none) ∧ judged 1000 = (.good, some 0) ∧ judged 1200 = (.good, some 0) ∧
    judged 2300 = (.good, some 500) ∧ judged 2851 = (.good, some 750) ∧ judged 3400 = (.good, some 1000) ∧
    judged 3600 = (.good, some 1000) ∧ judged 3601 = (.outOfRange, none) ∧
    (Channel.measure 100 15 (u16 2300) { channel1 with wet := 1150 }).quality = .calBad ∧
    (let t := after (.fieldReplyReceived 1#6 16#8 0#8 [8#8, 0xFC#8, 0#8, 0#8, 0#8, 0#8]) polling
     polling.Accepts 0 (entryOf .poll .measure 1 0xE1#32) 1#6 16#8 ∧ polling.line.state.powered = true ∧
       t.channel? 0xE1#32 1 = some { channel1 with lastRaw := some 2300, lastWetness := some 500, readingAt := some 100,
                                                   staleAt := some 2800 } ∧ (t.zone? 1).map (·.estimate) = some (some 500)) ∧
    (let e := { entryOf .link .measure 1 0xE1#32 with slot := some 0 }
     let s := asking e (withSlot .probeRead garden)
     let t := after (.fieldReplyReceived 1#6 16#8 0#8 [8#8, 0xFC#8, 0#8, 0#8, 0#8, 0#8]) s
     s.Accepts 0 e 1#6 16#8 ∧ (t.channel? 0xE1#32 1).map (·.lastWetness) = some (some 500) ∧
       t.Answered { kind := 0x9B#8, tag := 0x77#8, payload := [0#8, 8#8, 0xFC#8, 1#8, 0xF4#8, 1#8], resets := false }) := by
  decide +kernel

theorem witness_PollsAndStalenessRunOnTheirTimers :
    (let s := { garden with poller := { garden.poller with polls := [{ poll1 with nextPoll := some 100 }] } }
     let t := after (.pollDue 0xE1#32) s
     s.Settled ∧ s.poll? 0xE1#32 = some { poll1 with nextPoll := some 100 } ∧ s.addrOf 0xE1#32 = some 1 ∧ s.HasRoom ∧
       t.poll? 0xE1#32 = some { poll1 with state := .inFlight, nextPoll := none, entry := some (0, true) } ∧
       (t.sched.entries.head?.map fun e => (e.state, e.op, e.gen)) = some (.sent, .measure, true) ∧
       (after (.pollDue 0xE1#32) (lineAt .quiet none s)).line.state = .waking ∧
       (let u := crowded s
        let v := after (.pollDue 0xE1#32) u
        ¬ u.HasRoom ∧ v.sched.waits.map (fun w => (w.req.subject, w.joinedAt)) = [(0xE1#32, 100000)] ∧
          v.poll? 0xE1#32 = some { poll1 with state := .deferred, nextPoll := none, dueSince := some 100 })) ∧
    after (.pollDue 0xE1#32) garden = garden ∧
    (let t := after (.fieldReplyReceived 1#6 16#8 2#8 []) polling
     polling.device? 0xE1#32 = some probe ∧ t.poll? 0xE1#32 = some { poll1 with nextPoll := some 1000 } ∧
       t.device? 0xE1#32 = some { probe with missCount := 0 } ∧ t.poller.channels = polling.poller.channels) ∧
    (let t := after (.fieldReplyReceived 1#6 16#8 5#8 []) polling
     (t.channel? 0xE1#32 1).map (·.quality) = some .sensorFault ∧ (t.zone? 1).map (·.estimate) = some none) ∧
    (let s := { garden with clock := { garden.clock with uptime := 2740 } }
     let t := after (.stalenessExpiry 0xE1#32 1) s
     t.channel? 0xE1#32 1 = some { channel1 with fresh := false, staleAt := none } ∧
       (t.zone? 1).map (·.estimate) = some none ∧
       (let u := { s with clock := { s.clock with uptime := 2739 } }
        after (.stalenessExpiry 0xE1#32 1) u = u)) := by decide +kernel

/-- The third miss in a row loses the probe. -/
theorem test_third_miss_loses_the_probe :
    let s := { polling with
      sched := { polling.sched with
        entries := polling.sched.entries.map fun e => if e.state = .sent then { e with attempts := 2 } else e },
      devs := { polling.devs with table := some decoder :: some { probe with missCount := 2 } :: List.replicate 38 none },
      line := { polling.line with turn := polling.line.turn.map fun u => { u with waitEnd := some 100000 } } }
    let t := after .turnTimeout s
    (t.device? 0xE1#32).map (fun d => (d.state, d.shortAddr, d.missCount)) = some (.unplaced, none, 0) ∧
      t.devs.releasing = [1] ∧ t.poller.polls = [] ∧
      t.link.tx = some (Notice.frame (.deviceEvent .lost 0xE1#32 (some .probe) none none none none)) := by decide +kernel

/-! ## Field devices -/

theorem witness_DeviceListAndGetReportTheTable :
    garden.Takes [4#8] ∧
    after (.deviceList 1#8 [5#8]) garden = garden.replied 0x16#8 1#8 .badField [] ∧
    after (.deviceList 1#8 [4#8]) garden = garden.replied 0x16#8 1#8 .ok [2#8] ∧
    after (.deviceList 1#8 [0#8]) garden = garden.replied 0x16#8 1#8 .ok
      [2#8, 0#8, 0#8, 0#8, 0xD1#8, 0#8, 3#8, 1#8, 2#8, 0#8, 1#8, 0#8, 0#8, 0#8, 0xE1#8, 1#8, 3#8, 1#8, 1#8, 0#8, 1#8] ∧
    after (.deviceGet 1#8 [0#8, 0#8, 0#8, 1#8]) garden = garden.replied 0x17#8 1#8 .noDevice [] ∧
    after (.deviceGet 1#8 [0#8, 0#8, 0#8, 0xE1#8]) garden = garden.replied 0x17#8 1#8 .ok
      [0#8, 0#8, 0#8, 0xE1#8, 1#8, 9#8, 3#8, 1#8, 3#8, 1#8, 0#8, 1#8, 15#8, 1#8, 1#8, 0x5E#8, 1#8, 1#8,
        0#8, 0xFF#8, 0xFF#8, 0#8, 0#8, 0#8, 0xFF#8, 0xFF#8, 0#8, 0#8] := by decide +kernel

/-- A table of 40 records, one of which may be evicted. -/
def fullTable (d : Device) : State :=
  { garden with devs := { garden.devs with
      table := some d :: some decoder :: some probe ::
        (List.range 37).map fun k => some { decoder with serial := BitVec.ofNat 32 (1000 + k), shortAddr := none } } }

theorem witness_EnrolAndRetireKeepTheDeviceTable :
    (let t := after (.enrol 1#8 [0#8, 0#8, 0#8, 5#8, 0#8]) garden
     garden.Takes [0#8, 0#8, 0#8, 5#8, 0#8] ∧ garden.device? 5#32 = none ∧ none ∈ garden.devs.table ∧
       t.device? 5#32 = some { stranger with serial := 5#32, enrolled := true } ∧ t.devs.created = 3 ∧
       t.Answered (replyFrame 0x18#8 1#8 .ok [0#8, 1#8])) ∧
    (let t := after (.enrol 1#8 [0#8, 0#8, 0#8, 0xD1#8, 120#8]) garden
     t.device? 0xD1#32 = some { decoder with pollInterval := 120 } ∧
       t.Answered (replyFrame 0x18#8 1#8 .ok [3#8, 0#8])) ∧
    (let s := { garden with devs := { garden.devs with
       table := some decoder :: some { probe with enrolled := false, duplicate := true } :: List.replicate 38 none } }
     let t := after (.enrol 1#8 [0#8, 0#8, 0#8, 0xE1#8, 1#8]) s
     s.HasRoom ∧ t.device? 0xE1#32 = some { probe with pollInterval := 1, state := .identifying } ∧
       t.poll? 0xE1#32 = none ∧ t.HasAsked .discovery .readCal 1 (some 1) []) ∧
    after (.enrol 1#8 [0#8, 0#8, 0#8, 0#8, 0#8]) garden = garden.replied 0x18#8 1#8 .badField [] ∧
    after (.enrol 1#8 [0#8, 0#8, 0#8, 5#8, 121#8]) garden = garden.replied 0x18#8 1#8 .badField [] ∧
    (let s := fullTable { stranger with enrolled := true }
     none ∉ s.devs.table ∧
       after (.enrol 1#8 [0#8, 0#8, 0#8, 5#8, 0#8]) s = s.replied 0x18#8 1#8 .conflict []) ∧
    (let v := { stranger with state := .ready, shortAddr := some 3 }
     let s := fullTable v
     let t := after (.enrol 1#8 [0#8, 0#8, 0#8, 5#8, 0#8]) s
     s.device? v.serial = some v ∧ t.device? v.serial = none ∧ t.devs.releasing = [3] ∧
       (t.device? 5#32).map (·.enrolled) = some true) ∧
    after (.retire 1#8 [0#8, 0#8, 0#8, 5#8]) garden = garden.replied 0x19#8 1#8 .noDevice [] ∧
    after (.retire 1#8 [0#8, 0#8, 0#8, 0xE1#8]) garden = garden.replied 0x19#8 1#8 .conflict [] ∧
    (let s := { garden with zones := zonesWith { bed with channels := [] } }
     let t := after (.retire 1#8 [0#8, 0#8, 0#8, 0xE1#8]) s
     t.device? 0xE1#32 = none ∧ t.device? 0xD1#32 = some decoder ∧ t.poll? 0xE1#32 = none ∧
       t.channel? 0xE1#32 1 = none ∧ t.devs.releasing = [1] ∧ t.Answered (replyFrame 0x19#8 1#8 .ok [])) := by
  decide +kernel

theorem witness_EnrolAndRetireKeepTheDeviceTable_enrolled :
    let t := after (.enrol 1#8 [0#8, 0#8, 0#8, 0xE1#8, 120#8]) garden
    garden.HasRoom ∧ t.device? 0xE1#32 = some { probe with pollInterval := 120, state := .identifying } ∧
      t.Answered (replyFrame 0x18#8 1#8 .ok [2#8, 0#8]) ∧ t.channel? 0xE1#32 1 = some channel1 ∧
      t.poll? 0xE1#32 = none ∧ t.HasAsked .discovery .readCal 1 (some 1) [] := by decide +kernel

theorem witness_SweepsAndWindowsAreHeld :
    (let t := after (.sweep 1#8 []) garden
     garden.Takes [] ∧ garden.Settled ∧ t.devs = { garden.devs with sweepEnd := some 110, nextWindow := some 100200 } ∧
       t.Answered (replyFrame 0x1A#8 1#8 .ok [])) ∧
    (let s := lineAt .quiet none garden
     after (.sweep 1#8 []) s = s.replied 0x1A#8 1#8 .conflict []) ∧
    (let s := { garden with devs := { garden.devs with sweepEnd := some 100 } }
     (after .sweepEnd s).devs = garden.devs ∧
       (let u := { garden with devs := { garden.devs with sweepEnd := some 101 } }
        after .sweepEnd u = u)) ∧
    (let s := { garden with devs := { garden.devs with nextWindow := some 100000, floor := 0xD1#32 } }
     let t := after .announceWindowDue s
     s.HasRoom ∧ t.devs = { s.devs with nextWindow := none } ∧
       t.HasAsked .discovery .invite 63 none [0#8, 0#8, 0#8, 0xD1#8] ∧
       (let u := lineAt .waking (some 100100) s
        after .announceWindowDue u = u)) ∧
    after .announceWindowDue garden = garden := by decide +kernel

theorem witness_NoWindowOpen (floor : Serial) :
    { garden with devs := { garden.devs with nextWindow := some 100000, floor := floor } }.NoWindowOpen :=
  windowOpen_eq_false_iff.1 rfl

def inviteEntry : Entry :=
  { entryOf .discovery .invite 63 0#32 with replyAddr := none, payload := [0#8, 0#8, 0#8, 0#8] }

/-- The announce slot of an INVITE runs, with one more record in the table. -/
def announcing (d : Option Device) : State :=
  let s := inTurn .announceSlot (some 100000) none (asking inviteEntry garden)
  { s with devs := { s.devs with table := some decoder :: some probe :: d :: List.replicate 37 none } }

/-- A window that falls due while the INVITE of another is QUEUED or waits for an entry does not begin; the completion of
that INVITE sets next_window anew, 200 ms on under a sweep requested in its slot. -/
theorem test_windows_follow_each_other :
    (let s := { garden with devs := { garden.devs with nextWindow := some 100000 } }
     let u := asking { inviteEntry with state := .queued } s
     let w := { s with sched := { s.sched with waits := [{ req := inviteRequest 0#32, joinedAt := 99990 }] } }
     after .announceWindowDue u = u ∧ after .announceWindowDue w = w ∧ .announceWindowDue ∉ (ticked u).pending) ∧
    (let s := { announcing none with devs := { (announcing none).devs with nextWindow := some 104000 } }
     let t := after (.sweep 1#8 []) s
     t.devs.nextWindow = some 100200 ∧ after .announceWindowDue { t with timeBase := 100200 } = { t with timeBase := 100200 } ∧
       (after (.announceSlotEnd .empty) { t with timeBase := 100250 }).devs.nextWindow = some 100450) := by
  decide +kernel

theorem witness_AnnounceSlotEndPlacesTheSerial :
    (let s := announcing none
     let w := { s.devs with nextWindow := some 105000, lastWindowAt := some 100000 }
     s.Settled ∧ s.entry? 0 = some inviteEntry ∧ (after (.announceSlotEnd .empty) s).devs = w ∧
       (after (.announceSlotEnd .failed) { s with devs := { s.devs with floor := 7#32 } }).devs = { w with floor := 7#32 } ∧
       (after (.announceSlotEnd (.serial 0xA1#32)) s).devs =
         { w with floor := 0xA1#32, created := 3,
                  table := some decoder :: some probe ::
                    some { stranger with state := .placing, shortAddr := some 3 } :: List.replicate 37 none }) ∧
    (let s := lineAt .sweeping (some 110000) (announcing (some stranger))
     let t := after (.announceSlotEnd (.serial 0xA1#32)) s
     t.device? 0xA1#32 = some { stranger with state := .placing, shortAddr := some 3 } ∧ t.devs.nextWindow = some 100200 ∧
       t.HasAsked .discovery .assign 63 (some 3) [0#8, 0#8, 0#8, 0xA1#8, 3#8]) ∧
    (let s := announcing (some { stranger with duplicate := true })
     (after (.announceSlotEnd (.serial 0xA1#32)) s).devs.table = s.devs.table) ∧
    (let s := announcing none
     (after (.announceSlotEnd (.serial 0xE1#32)) s).device? 0xE1#32 =
       some { probe with state := .placing, shortAddr := some 1 } ∧
       (after (.announceSlotEnd (.serial 0xE1#32)) s).poller.polls = []) ∧
    (let s := { announcing none with devs := (fullTable { stranger with enrolled := true }).devs }
     let t := after (.announceSlotEnd (.serial 0xB1#32)) s
     t.devs = { s.devs with floor := 0xB1#32, overflowReported := true } ∧
       t.link = s.link.post (.deviceEvent .overflow 0xB1#32 none none none none none)) := by decide +kernel

/-- A record in placement, whose transaction stands at index 0. -/
def placing (op : FieldOp) (d : Device) : State :=
  let e := { entryOf .discovery op 3 0xA1#32 with replyAddr := some 3 }
  let s := inTurn .awaiting (some 100010) none (asking e garden)
  { s with devs := { s.devs with table := some decoder :: some probe :: some d :: List.replicate 37 none } }

theorem witness_PlacementFollowsItsAnswers :
    (let d := { stranger with state := .placing, shortAddr := some 3 }
     let s := placing .assign d
     let t := after (.fieldReplyReceived 3#6 16#8 0#8 []) s
     s.Settled ∧ s.Accepts 0 (entryOf .discovery .assign 3 0xA1#32) 3#6 16#8 ∧
       t.device? 0xA1#32 = some { d with state := .identifying } ∧ t.HasAsked .discovery .identify 3 (some 3) [] ∧
       ((after (.fieldReplyReceived 3#6 16#8 2#8 []) s).device? 0xA1#32 = some stranger ∧
         (after (.fieldReplyReceived 3#6 16#8 2#8 []) s).devs.releasing = [3])) ∧
    (let d := { stranger with state := .identifying, shortAddr := some 3 }
     let s := placing .identify d
     (after (.fieldReplyReceived 3#6 16#8 0#8 [1#8, 7#8, 4#8]) s).device? 0xA1#32 =
         some { d with kind := .decoder, model := some 7, count := some 4, state := .ready } ∧
       (after (.fieldReplyReceived 3#6 16#8 0#8 [1#8, 7#8, 5#8]) s).device? 0xA1#32 = some stranger ∧
       (after (.fieldReplyReceived 3#6 16#8 0#8 [2#8, 7#8, 0#8]) s).device? 0xA1#32 = some stranger ∧
       (after (.fieldReplyReceived 3#6 16#8 0#8 [3#8, 7#8, 1#8]) s).device? 0xA1#32 = some stranger) ∧
    (let d := { stranger with state := .identifying, shortAddr := some 3, enrolled := true }
     let s := placing .identify d
     let t := after (.fieldReplyReceived 3#6 16#8 0#8 [2#8, 7#8, 3#8]) s
     t.device? 0xA1#32 = some { d with kind := .probe, model := some 7, count := some 3 } ∧
       t.HasAsked .discovery .readCal 3 (some 3) [] ∧
       (let u := { s with zones := zonesWith { bed with outputs := [{ serial := 0xA1#32, num := 1 }] } }
        (after (.fieldReplyReceived 3#6 16#8 0#8 [2#8, 7#8, 3#8]) u).device? 0xA1#32 =
          some { stranger with enrolled := true, kindMismatch := true })) ∧
    (let d := { probe with serial := 0xA1#32, state := .identifying, shortAddr := some 3, count := some 1 }
     let s := placing .readCal d
     let c := { channel1 with serial := 0xA1#32 }
     let u := { s with poller := { s.poller with channels := some c :: List.replicate 31 none } }
     let t := after (.fieldReplyReceived 3#6 16#8 0#8 [1#8, 2#8, 3#8, 4#8]) u
     t.device? 0xA1#32 = some { d with state := .ready, missCount := 0 } ∧
       t.channel? 0xA1#32 1 = some { c with dry := 258, wet := 772 } ∧
       t.poll? 0xA1#32 = some { poll1 with serial := 0xA1#32, nextPoll := some 100 }) ∧
    (let d := { probe with serial := 0xA1#32, state := .identifying, shortAddr := some 3, count := some 1 }
     let s := placing .readCal d
     let reply : Instr := .fieldReplyReceived 3#6 16#8 0#8 [1#8, 2#8, 3#8, 4#8]
     s.channel? 0xA1#32 1 = none ∧
       (after reply s).channel? 0xA1#32 1 = some (Channel.fresh0 0xA1#32 1 258 772) ∧
       (let full := busy { s with poller := { s.poller with channels := List.replicate 32 (some channel1) } }
        (after reply full).poller.channels = full.poller.channels ∧
          (after reply full).link.notices =
            [.deviceEvent .partialProbe 0xA1#32 none (some 1) none none (some 0),
              .deviceEvent .placed 0xA1#32 (some .probe) (some 1) (some 3) (some true) none]) ∧
       (let u := placing .readCal { d with kind := .decoder, count := some 4 }
        (after reply u).poller.channels = u.poller.channels ∧
          (after reply u).deviceState 0xA1#32 = some .ready)) := by decide +kernel

/-- An ASSIGN, an IDENTIFY or a READ_CAL fails without an answer at its third attempt. -/
def failing (op : FieldOp) (st : DeviceState) (checks : Nat) (replyLimit : Option Nat) : State :=
  let e := { entryOf .discovery op 3 0xA1#32 with attempts := 2, badChecks := checks }
  let s := inTurn .awaiting (some 100000) replyLimit (asking e garden)
  { s with devs := { s.devs with
      table := some decoder :: some probe :: some { stranger with state := st, shortAddr := some 3 } ::
        List.replicate 37 none } }

/-- The turn whose frame has been sent and whose entry stands at index 0. -/
def turn0 (replyLimit : Option Nat) : Turn :=
  { entry := 0, startedAt := 99990, phase := .awaiting, waitEnd := some 100000, replyLimit := replyLimit }

theorem witness_PlacementFollowsItsAnswers_failure :
    (let s := failing .assign .placing 2 none
     let t := after .fieldBadFrame s
     s.Settled ∧ t.device? 0xA1#32 = some { stranger with duplicate := true } ∧ t.devs.releasing = [3] ∧
       t.link = s.link.post (.deviceEvent .duplicate 0xA1#32 none none none none none) ∧
       (let u := after .turnTimeout s
        u.device? 0xA1#32 = some stranger ∧ u.devs.releasing = [3] ∧ u.link = s.link)) ∧
    (let s := failing .assign .placing 2 (some 100000)
     (after .replyTooLong s).device? 0xA1#32 = some { stranger with duplicate := true } ∧
       (after .turnTimeout s) = s) ∧
    (let s := failing .identify .identifying 2 none
     (after .fieldBadFrame s).device? 0xA1#32 = some stranger ∧ (after .fieldBadFrame s).link = s.link ∧
       (after .turnTimeout (failing .readCal .identifying 0 none)).device? 0xA1#32 = some stranger) := by decide +kernel

theorem witness_FailsTurn :
    (∃ e, (failing .assign .placing 2 none).FailsTurn (turn0 none) e .fieldBadFrame 3 ∧ e.asked = .assign) ∧
    (∃ e, (failing .assign .placing 2 none).FailsTurn (turn0 none) e .turnTimeout 2 ∧ e.asked = .assign) ∧
    (∃ e, (failing .assign .placing 2 (some 100000)).FailsTurn (turn0 (some 100000)) e .replyTooLong 3 ∧
      e.asked = .assign) ∧
    (let e := { entryOf .discovery .assign 3 0xA1#32 with arbLosses := 7 }
     (inTurn .sending none none (asking e garden)).FailsTurn
       { turn0 none with phase := .sending, waitEnd := none } e .arbitrationLost 0) :=
  ⟨⟨_, ⟨rfl, rfl, .inl ⟨rfl, .inr (by decide), .inr (.inr ⟨rfl, rfl, rfl⟩)⟩⟩, rfl⟩,
   ⟨_, ⟨rfl, rfl, .inl ⟨rfl, .inr (by decide), .inl ⟨rfl, rfl, rfl, _, rfl, Nat.le_refl _⟩⟩⟩, rfl⟩,
   ⟨_, ⟨rfl, rfl, .inl ⟨rfl, .inr (by decide), .inr (.inl ⟨rfl, rfl, _, rfl, Nat.le_refl _⟩)⟩⟩, rfl⟩,
   rfl, rfl, .inr ⟨rfl, .inr (by decide), rfl, rfl⟩⟩

theorem witness_ForwardedRequestsTakeASlot :
    (let p := [0#8, 0#8, 0#8, 0xE1#8, 3#8]
     let t := after (.probeRead 0x77#8 p) garden
     garden.Settled ∧ garden.Takes p ∧ garden.HasRoom ∧
       t.link = { garden.link with slots := { waitingSlot .probeRead with channel := 3 } :: List.replicate 7 Slot.blank } ∧
       t.HasAsked .link .measure 1 (some 1) [] ∧
       (let u := withSlot .probeRead garden
        after (.probeRead 0x77#8 p) u = u.replied 0x1B#8 0x77#8 .tagInUse []) ∧
       (let l := { garden.link with slots := List.replicate 8 (waitingSlot .probeRead) }
        let u := { garden with link := l }
        after (.probeRead 1#8 p) u = u.replied 0x1B#8 1#8 .busy []) ∧
       (let u := crowded garden
        ¬ u.HasRoom ∧ (after (.probeRead 1#8 p) u).sched.waits.map (·.req.slot) = [some 0])) ∧
    after (.probeRead 1#8 [0#8, 0#8, 0#8, 0xE1#8, 0#8]) garden = garden.replied 0x1B#8 1#8 .badField [] ∧
    after (.probeRead 1#8 [0#8, 0#8, 0#8, 0xE1#8, 4#8]) garden = garden.replied 0x1B#8 1#8 .badField [] ∧
    after (.probeRead 1#8 [0#8, 0#8, 0#8, 1#8, 1#8]) garden = garden.replied 0x1B#8 1#8 .noDevice [] ∧
    after (.probeRead 1#8 [0#8, 0#8, 0#8, 0xD1#8, 1#8]) garden = garden.replied 0x1B#8 1#8 .notEnrolled [] ∧
    (let tableOf (d : Device) : List (Option Device) := some decoder :: some d :: List.replicate 38 none
     let one := { probe with count := some 1 }
     let s := { garden with devs := { garden.devs with table := tableOf { one with state := .identifying } } }
     let u := lineAt .off none s
     let v := { garden with devs := { garden.devs with table := tableOf one } }
     after (.probeRead 1#8 [0#8, 0#8, 0#8, 0xE1#8, 1#8]) s = s.replied 0x1B#8 1#8 .conflict [] ∧
       after (.probeRead 1#8 [0#8, 0#8, 0#8, 0xE1#8, 1#8]) u = u.replied 0x1B#8 1#8 .lineDown [] ∧
       after (.probeRead 1#8 [0#8, 0#8, 0#8, 0xE1#8, 2#8]) v = v.replied 0x1B#8 1#8 .badField [] ∧
       after (.deviceQuery 1#8 [0#8, 0#8, 0#8, 0xE1#8]) s = s.replied 0x1C#8 1#8 .conflict [] ∧
       after (.deviceQuery 1#8 [0#8, 0#8, 0#8, 0xE1#8]) u = u.replied 0x1C#8 1#8 .lineDown []) ∧
    after (.deviceQuery 1#8 [0#8, 0#8, 0#8, 1#8]) garden = garden.replied 0x1C#8 1#8 .noDevice [] ∧
    (let t := after (.deviceQuery 0x77#8 [0#8, 0#8, 0#8, 0xD1#8]) garden
     t.link.slots.head? = some { waitingSlot .deviceQuery with channel := 0 } ∧
       t.HasAsked .link .identify 2 (some 2) []) := by decide +kernel

/-- A forwarded request of the host to a device stands at index 0 and waits in slot 0. -/
def forwarded (kind : ForwardKind) (op : FieldOp) (addr : Nat) (n : Serial) : State :=
  asking { entryOf .link op addr n with slot := some 0 } (withSlot kind garden)

def queryAnswer (payload : List Byte) : HostFrame :=
  { kind := 0x9C#8, tag := 0x77#8, payload := payload, resets := false }

theorem witness_ForwardedRequestsTakeASlot_answers :
    (let s := forwarded .probeRead .measure 1 0xE1#32
     let t := after (.fieldReplyReceived 1#6 16#8 0#8 [8#8, 0xFC#8, 0#8, 0#8, 0#8, 0#8]) s
     s.Accepts 0 { entryOf .link .measure 1 0xE1#32 with slot := some 0 } 1#6 16#8 ∧ s.link.slots[0]? =
         some (waitingSlot .probeRead) ∧
       t.Answered { kind := 0x9B#8, tag := 0x77#8, payload := [0#8, 8#8, 0xFC#8, 1#8, 0xF4#8, 1#8], resets := false } ∧
       t.link.slots = List.replicate 8 Slot.blank ∧
       (let u := after (.fieldReplyReceived 1#6 16#8 5#8 []) s
        u.Answered { kind := 0x9B#8, tag := 0x77#8, payload := [0x0C#8, 5#8], resets := false } ∧
          (u.channel? 0xE1#32 1).map (·.quality) = some .sensorFault)) ∧
    (let s := forwarded .deviceQuery .identify 2 0xD1#32
     let t := after (.fieldReplyReceived 2#6 16#8 0#8 [1#8, 8#8, 3#8]) s
     t.Answered (queryAnswer [0#8, 0#8, 8#8, 3#8]) ∧ t.link.slots.head? = some Slot.blank ∧
       t.device? 0xD1#32 = some { decoder with model := some 8, count := some 3 } ∧
       (let u := after (.fieldReplyReceived 2#6 16#8 0#8 [1#8, 8#8, 1#8]) s
        u.device? 0xD1#32 = some decoder ∧ u.Answered (queryAnswer [0#8, 0#8, 8#8, 1#8])) ∧
       (let u := after (.fieldReplyReceived 2#6 16#8 0#8 [3#8, 8#8, 1#8]) s
        u.device? 0xD1#32 = some decoder ∧ u.Answered (queryAnswer [0#8, 2#8, 8#8, 1#8]))) ∧
    (let s := forwarded .deviceQuery .identify 1 0xE1#32
     let t := after (.fieldReplyReceived 1#6 16#8 0#8 [2#8, 9#8, 2#8]) s
     t.device? 0xE1#32 = some { probe with count := some 2 } ∧ t.HasAsked .link .readCal 1 (some 1) [] ∧
       (t.link.slots.head?.bind (·.found)) = some { kind := .probe, model := 9, count := 2 }) ∧
    (let x := { waitingSlot .deviceQuery with found := some { kind := .probe, model := 9, count := 1 } }
     let s := forwarded .deviceQuery .readCal 1 0xE1#32
     let u := { s with link := { s.link with slots := x :: List.replicate 7 Slot.blank },
                       poller := { s.poller with polls := [] } }
     let t := after (.fieldReplyReceived 1#6 16#8 0#8 [1#8, 2#8, 3#8, 4#8]) u
     t.Answered (queryAnswer [0#8, 1#8, 9#8, 1#8, 1#8, 2#8, 3#8, 4#8]) ∧
       t.channel? 0xE1#32 1 = some { channel1 with dry := 258, wet := 772 } ∧
       t.poll? 0xE1#32 = some { poll1 with nextPoll := some 100 }) := by decide +kernel

/-! ## Field transactions -/

theorem witness_FrameSentStartsTheWait :
    (let e := { entryOf .poll .measure 1 0xE1#32 with sentOnce := false }
     let s := inTurn .sending none none (asking e garden)
     s.Settled ∧ s.entry? 0 = some e ∧
       after .fieldFrameSent s =
         { inTurn .awaiting (some 100030) none (asking { e with sentOnce := true } garden) with
           line := { (inTurn .awaiting (some 100030) none garden).line with guardEnd := some 100006 } } ∧
       after .replyStartCondition s = s) ∧
    (let s := inTurn .sending none none (asking { inviteEntry with sentOnce := false } garden)
     (after .fieldFrameSent s).line.turn.map (·.phase) = some .announceSlot) ∧
    (let e := { entryOf .valve .allClose 0 0#32 with replyAddr := none, sentOnce := false }
     let t := after .fieldFrameSent (inTurn .sending none none (asking e garden))
     t.line.turn = none ∧ t.seqr.spacingEnd = some 100400 ∧ t.supply.windowDiscard = true ∧
       t.entry? 0 = some (Entry.blank true)) ∧
    (let e := { entryOf .discovery .assign 63 0xA1#32 with replyAddr := none, releaseAddr := some 9, sentOnce := false }
     let s := inTurn .sending none none (asking e { garden with devs := { garden.devs with releasing := [8, 9] } })
     let t := after .fieldFrameSent s
     t.devs = { s.devs with releasing := [8] } ∧ t.seqr = s.seqr ∧ t.entry? 0 = some (Entry.blank true) ∧
       (let req : Request := { origin := .valve, slot := none, address := 2, replyAddr := some 2, op := .opn,
                               payload := [1#8], subject := 0xD1#32, zone := 1, releaseAddr := none }
        let v := admitted opening (record1 .notSent .notSent) .on s
        let t := after .fieldFrameSent { v with sched := { v.sched with waits := [{ req := req, joinedAt := 99990 }] } }
        t.devs = { s.devs with releasing := [8] } ∧ t.line.turn = none ∧ t.seqr.spacingEnd = s.seqr.spacingEnd ∧
          t.seqr.records = [{ record1 .openSent .notSent with inFlight := some (0, false) }])) ∧
    after .fieldFrameSent polling = polling ∧
    (after .replyStartCondition polling).line.turn.map (·.replyLimit) = some (some 100020) := by decide +kernel

theorem witness_RepliesAreMatchedAndHeld :
    (let s := { polling with sched := { polling.sched with strays := 65534 } }
     let t := after (.fieldReplyReceived 1#6 0#8 0#8 []) s
     s.Settled ∧ s.line.state ≠ .off ∧ t.sched.strays = 65535 ∧ t.line.turn = s.line.turn ∧
       (after (.fieldReplyReceived 1#6 0#8 0#8 []) t).sched.strays = 65535 ∧
       (after (.fieldReplyReceived 2#6 16#8 0#8 []) s).sched.strays = 65535 ∧
       (let u := lineAt .off none s
        after (.fieldReplyReceived 1#6 16#8 0#8 []) u = { u with sched := { u.sched with strays := 65535 } })) ∧
    (let e := { entryOf .poll .measure 1 0xE1#32 with holdTotal := 7000 }
     let s := inTurn .awaiting (some 100010) none (asking e garden)
     (after (.fieldReplyReceived 1#6 16#8 1#8 [0xFF#8, 0xFF#8]) s).entry? 0 =
         some { e with state := .holding, holdUntil := some 103000, holdTotal := 10000 } ∧
       (after (.fieldReplyReceived 1#6 16#8 1#8 [0#8, 49#8]) s).entry? 0 =
         some { e with state := .holding, holdUntil := some 100050, holdTotal := 7050 } ∧
       (after (.fieldReplyReceived 1#6 16#8 1#8 [0#8, 49#8]) s).line.turn = none) ∧
    (let e := { entryOf .link .measure 1 0xE1#32 with slot := some 0, holdTotal := 7001 }
     let s := asking e (withSlot .probeRead (busy garden))
     (after (.fieldReplyReceived 1#6 16#8 1#8 [0x0B#8, 0xB8#8]) s).link.replies =
       [{ kind := 0x9B#8, tag := 0x77#8, payload := [0x0A#8], resets := false }]) ∧
    (let e := { entryOf .poll .measure 1 0xE1#32 with state := .holding, holdUntil := some 100000, attempts := 1 }
     let s := asking e garden
     (after (.holdExpiry 0) s).entry? 0 =
         some { e with state := .sent, op := .collect, holdUntil := none, sentOnce := false, attempts := 0 } ∧
       (let u := { s with timeBase := 99999 }
        after (.holdExpiry 0) u = u) ∧ after (.holdExpiry 0) polling = polling) := by decide +kernel

/-- A run's actuation stands at index 0, its reply awaited. -/
def actuating (op : FieldOp) (num : Byte) (q : Run) (x : ActRecord) : State :=
  asking { entryOf .valve op 2 0xD1#32 with zone := 1, payload := [num] }
    (admitted q { x with inFlight := some (0, true) } .on garden)

theorem witness_ActuationAnswersMoveTheRun :
    (let s := actuating .opn 2#8 opening (record1 .opened .openSent)
     let t := after (.fieldReplyReceived 2#6 16#8 0#8 []) s
     s.Settled ∧ s.Accepts 0 { entryOf .valve .opn 2 0xD1#32 with zone := 1, payload := [2#8] } 2#6 16#8 ∧
       s.sched.waits = [] ∧
       t.arb = { s.arb with runs := [{ openRun with cycleS := some 600 }], openOrder := [1] } ∧
       t.seqr.records = [{ record1 .opened .opened with cycleStart := some 100, cycleEnd := some 700 }] ∧
       (t.zone? 1).map (fun r => (r.state, r.runsToday)) = some (.active, 1)) ∧
    (let s := actuating .opn 1#8 opening (record1 .openSent .notSent)
     let t := after (.fieldReplyReceived 2#6 16#8 3#8 []) s
     t.arb.runs = [] ∧ t.seqr.records = [] ∧
       (t.zone? 1).map (fun r => (r.state, r.faultReason)) = some (.faulted, some .coilOpen)) ∧
    (let q := { openRun with state := .closing, destination := some .soaking, remainingS := 540 }
     let s := actuating .close 2#8 q (record1 .closed .closeSent)
     let t := after (.fieldReplyReceived 2#6 16#8 0#8 []) s
     t.arb.runs = [{ q with state := .soaking, destination := none, cycleS := none, soakEnd := some 1000 }] ∧
       t.arb.flowSum = 0 ∧ t.arb.openCount = 0 ∧ t.seqr.records = [] ∧ t.supply.state = .lag ∧
       t.supply.timerEnd = some 130 ∧
       (let u := { s with supply := { s.supply with lagS := 0 } }
        (after (.fieldReplyReceived 2#6 16#8 0#8 []) u).supply.state = .idle)) ∧
    (let q := { openRun with state := .closing, destination := some .complete, remainingS := 0 }
     let s := actuating .close 2#8 q (record1 .closed .closeSent)
     let t := after (.fieldReplyReceived 2#6 16#8 0#8 []) s
     t.arb.runs = [] ∧ (t.zone? 1).map (fun r => (r.state, r.daysSinceRun, r.settleEnd)) =
       some (.settling, 0, some 3700)) ∧
    (let q := { openRun with state := .closing, destination := some .complete }
     let s := actuating .close 1#8 q (record1 .closeSent .opened)
     let t := after (.fieldReplyReceived 2#6 16#8 2#8 []) s
     t.arb.runs = [] ∧ (t.zone? 1).map (fun r => (r.state, r.faultReason)) = some (.faulted, some .stuck) ∧
       t.supply.state = .tripped) := by decide +kernel

/-- The actuation at index 0 has had two attempts with no answer, and its decoder so many misses. -/
def unanswered (op : FieldOp) (num : Byte) (q : Run) (x : ActRecord) (misses : Nat) : State :=
  let s := actuating op num q x
  inTurn .awaiting (some 100000) none
    { s with sched := { s.sched with entries := s.sched.entries.map fun e =>
               if e.state = .sent then { e with attempts := 2 } else e },
             devs := { s.devs with
               table := some { decoder with missCount := misses } :: some probe :: List.replicate 38 none } }

theorem witness_ActuationAnswersMoveTheRun_failure :
    (let s := unanswered .opn 1#8 opening (record1 .openSent .notSent) 1
     let t := after .turnTimeout s
     s.Settled ∧ s.sched.waits = [] ∧ t.device? 0xD1#32 = some { decoder with missCount := 2 } ∧
       t.run? 1 = some { opening with state := .closing, destination := some (.fault .noResponse) } ∧
       (t.record? 1).map (fun x => (x.closeLimitAt, x.outputs.map (·.status))) =
         some (some 120000, [.closeSent, .notSent])) ∧
    (let s := unanswered .opn 2#8 { opening with destination := some .cancelled } (record1 .opened .openSent) 0
     let t := after .fieldBadFrame s
     t.device? 0xD1#32 = some decoder ∧
       t.run? 1 = some { opening with state := .closing, destination := some (.fault .noResponse) } ∧
       (t.record? 1).map (fun x => x.outputs.map (·.status)) = some [.closeSent, .unknown]) ∧
    (let s := unanswered .opn 1#8 opening (record1 .openSent .notSent) 2
     let t := after .turnTimeout s
     t.device? 0xD1#32 = some { decoder with state := .unplaced, shortAddr := none, missCount := 0 } ∧
       t.devs.releasing = [2] ∧ t.run? 1 = none ∧
       (t.zone? 1).map (fun r => (r.state, r.faultReason)) = some (.faulted, some .stuck) ∧
       t.supply.state = .tripped) ∧
    (let q := { openRun with state := .closing, destination := some .soaking, remainingS := 540 }
     let lost (misses : Nat) : State := after .turnTimeout (unanswered .close 2#8 q (record1 .closed .closeSent) misses)
     (lost 1).device? 0xD1#32 = some { decoder with missCount := 2 } ∧ (lost 1).arb.runs = [] ∧
       ((lost 1).zone? 1).map (fun r => (r.state, r.faultReason)) = some (.faulted, some .stuck) ∧
       (lost 1).supply.state = .tripped ∧
       (lost 2).device? 0xD1#32 = some { decoder with state := .unplaced, shortAddr := none, missCount := 0 } ∧
       (lost 2).devs.releasing = [2] ∧
       ((lost 2).zone? 1).map (fun r => (r.state, r.faultReason)) = some (.faulted, some .stuck)) := by decide +kernel

theorem witness_ActuationAnswersMoveTheRun_failsTurn (misses : Nat) :
    ∃ e, (unanswered .opn 1#8 opening (record1 .openSent .notSent) misses).FailsTurn (turn0 none) e .turnTimeout 0 ∧
      e.origin = .valve ∧ e.asked = .opn :=
  ⟨_, ⟨rfl, rfl, .inl ⟨rfl, .inr (by decide), .inl ⟨rfl, rfl, rfl, _, rfl, Nat.le_refl _⟩⟩⟩, rfl, rfl⟩

/-- The answer to the COLLECT of a held OPEN moves the output that the record has in flight. -/
theorem test_collect_answers_the_open :
    let s := actuating .opn 1#8 opening (record1 .openSent .notSent)
    let e := { entryOf .valve .collect 2 0xD1#32 with zone := 1, asked := .opn }
    let t := after (.fieldReplyReceived 2#6 16#8 0#8 []) (asking e s)
    t.seqr.records = [{ record1 .opened .openSent with inFlight := some (0, false) }] := by decide +kernel

theorem witness_AttemptsAreRetriedAndFail :
    (let s := { polling with line := { polling.line with turn := polling.line.turn.map fun u =>
       { u with waitEnd := some 100000 } } }
     let e := entryOf .poll .measure 1 0xE1#32
     s.Settled ∧ (after .turnTimeout s).entry? 0 = some { e with attempts := 1 } ∧ after .turnTimeout polling = polling ∧
       (after .fieldBadFrame s).entry? 0 = some { e with state := .queued, attempts := 1, badChecks := 1 } ∧
       after .replyTooLong s = s ∧ after .arbitrationLost s = s) ∧
    (let s := inTurn .awaiting (some 100030) (some 100000) (asking (entryOf .poll .measure 1 0xE1#32) garden)
     (after .replyTooLong s).entry? 0 =
       some { entryOf .poll .measure 1 0xE1#32 with attempts := 1, badChecks := 1 }) ∧
    (let e := { entryOf .link .measure 1 0xE1#32 with slot := some 0, attempts := 2 }
     let s := inTurn .awaiting (some 100000) none (asking e (withSlot .probeRead (busy garden)))
     (after .turnTimeout s).link.replies =
       [{ kind := 0x9B#8, tag := 0x77#8, payload := [0x0A#8], resets := false }]) ∧
    (let s := announcing none
     (after .fieldBadFrame s).devs = { s.devs with nextWindow := some 105000, lastWindowAt := some 100000 } ∧
       (let u := inTurn .announceSlot (some 100010) (some 100000) s
        (after .replyTooLong u).devs = (after .fieldBadFrame s).devs)) ∧
    (let e := { entryOf .link .measure 1 0xE1#32 with slot := some 0, arbLosses := 6 }
     let s := inTurn .sending none none (asking e (withSlot .probeRead (busy garden)))
     let t := after .arbitrationLost s
     t.entry? 0 = some { e with state := .queued, arbLosses := 7 } ∧ t.line.foreignBusy = true ∧
       t.line.foreignLimit = some 100010 ∧ t.line.turn = none ∧ t.line.reservation = some 0 ∧
       (let u := inTurn .sending none none (asking { e with arbLosses := 7 } (withSlot .probeRead (busy garden)))
        (after .arbitrationLost u).link.replies =
          [{ kind := 0x9B#8, tag := 0x77#8, payload := [0x0B#8], resets := false }])) ∧
    (let s := inTurn .sending none none (asking { inviteEntry with arbLosses := 7 } garden)
     (after .arbitrationLost s).devs = { s.devs with nextWindow := some 105000, lastWindowAt := some 100000 }) := by
  decide +kernel

/-- The third attempt of a poll has had no reply, and the device it asks has missed so many before. A decoder has a poll
here, which no run makes, so that its zone is in the way of the loss. -/
def missing (misses : Nat) (s : State) : State :=
  let lost := { decoder with missCount := misses }
  let p : PollRec := { serial := 0xD1#32, state := .inFlight, nextPoll := none, dueSince := none, entry := some (0, true) }
  inTurn .awaiting (some 100000) none (asking { entryOf .poll .measure 2 0xD1#32 with attempts := 2 }
    { s with devs := { s.devs with table := some lost :: some probe :: List.replicate 38 none },
             poller := { s.poller with polls := [p] } })

theorem witness_AttemptsAreRetriedAndFail_misses :
    (let t := after .turnTimeout (missing 1 garden)
     t.device? 0xD1#32 = some { decoder with missCount := 2 } ∧
       (t.poll? 0xD1#32).map (fun r => (r.state, r.nextPoll)) = some (.waiting, some 1000)) ∧
    (let t := after .turnTimeout (missing 2 garden)
     t.device? 0xD1#32 = some { decoder with state := .unplaced, shortAddr := none, missCount := 0 } ∧
       t.devs.releasing = [2] ∧ t.poll? 0xD1#32 = none ∧
       (t.zone? 1).map (fun r => (r.state, r.faultReason)) = some (.faulted, some .deviceLost)) ∧
    (let t := after .turnTimeout (missing 2 (owing run1 garden))
     t.run? 1 = none ∧ (t.zone? 1).map (fun r => (r.state, r.faultReason)) = some (.faulted, some .deviceLost)) ∧
    (let t := after .turnTimeout (missing 2 watering)
     t.run? 1 = none ∧ (t.zone? 1).map (fun r => (r.state, r.faultReason)) = some (.faulted, some .stuck) ∧
       t.supply.state = .tripped) ∧
    (let s := missing 2 (busy { garden with zones := List.replicate 48 Zone.reset })
     (after .turnTimeout s).link.notices = [.deviceEvent .lost 0xD1#32 (some .decoder) none none none none]) := by
  decide +kernel

def queued (o : Origin) (op : FieldOp) (addr : Nat) : Entry :=
  { entryOf o op addr 0x99#32 with state := .queued, sentOnce := false }

/-- Four QUEUED entries: a poll, an OPEN, a CLOSE, and one more CLOSE asked for at the same time. -/
def contended : State :=
  { garden with
    sched := { garden.sched with entries := [queued .poll .measure 5, queued .valve .opn 6, queued .valve .close 7,
      queued .valve .close 8] ++ List.replicate 12 (Entry.blank false) },
    line := { garden.line with guardEnd := some 100000 } }

theorem witness_TheFirstFrameInRankStarts :
    (let t := after .guardExpiry contended
     contended.Settled ∧ contended.line.turn = none ∧ t.line.turn.map (·.entry) = some 2 ∧ t.line.guardEnd = none ∧
       (t.entry? 2).map (·.state) = some .sent ∧
       (let u := { contended with line := { contended.line with foreignBusy := true } }
        (after .guardExpiry u).line = { u.line with guardEnd := none, reservation := some 2 }) ∧
       (let u := { contended with timeBase := 99999 }
        after .guardExpiry u = u)) ∧
    (let s := { contended with seqr := { contended.seqr with spacingEnd := some 100000 } }
     (after .guardExpiry s).line.turn.map (·.entry) = some 0 ∧
       (let u := { s with line := { s.line with guardEnd := none } }
        (after .spacingExpiry u).line.turn.map (·.entry) = some 2 ∧ (after .spacingExpiry u).seqr.spacingEnd = none) ∧
       (let u := { s with timeBase := 99999 }
        after .spacingExpiry u = u)) ∧
    (let s := { garden with line := { garden.line with guardEnd := some 100000, reservation := some 3 },
                            seqr := { garden.seqr with spacingEnd := some 100000 } }
     (after .guardExpiry s).line = garden.line ∧ (after .spacingExpiry s).line = { s.line with reservation := none }) := by
  decide +kernel

/-! ## The field line -/

/-- A garden that may go quiet. -/
def restful : State := { garden with line := { garden.line with quietAllowed := true } }

theorem witness_LineSetSetsPowerAndQuiet :
    (garden.Takes [2#8, 0#8] ∧ after (.lineSet 1#8 [2#8, 0#8]) garden = garden.replied 0x1D#8 1#8 .badField [] ∧
      after (.lineSet 1#8 [1#8, 2#8]) garden = garden.replied 0x1D#8 1#8 .badField []) ∧
    (let s := { lineAt .off none garden with line := { (lineAt .off none garden).line with latched := true } }
     let t := after (.lineSet 1#8 [1#8, 1#8]) s
     s.Settled ∧ s.sched.entries.length = 16 ∧ t.line.state = .rising ∧ t.line.stateEnd = some 102000 ∧
       t.line.latched = false ∧ t.devs.nextWindow = none ∧ t.Answered (replyFrame 0x1D#8 1#8 .ok [1#8, 0#8, 1#8]) ∧
       (after (.lineSet 1#8 [0#8, 0#8]) s).line = s.line) ∧
    (after (.lineSet 1#8 [1#8, 1#8]) garden).line.state = .quiet ∧
    (let s := { garden with poller := { garden.poller with polls := [{ poll1 with nextPoll := some 220 }] } }
     (after (.lineSet 1#8 [1#8, 1#8]) s).line = { s.line with quietAllowed := true }) ∧
    (let t := after (.lineSet 1#8 [1#8, 0#8]) (lineAt .quiet none restful)
     t.line.state = .waking ∧ t.line.stateEnd = some 100300) ∧
    (let t := after (.lineSet 1#8 [0#8, 0#8]) (lineAt .fault (some 130000) garden)
     t.line.state = .off ∧ t.line.stateEnd = none) ∧
    (let t := after (.lineSet 1#8 [0#8, 0#8]) polling
     t.line.state = .off ∧ t.line.turn = none ∧ t.poller.polls = [] ∧ t.entry? 0 = some (Entry.blank true) ∧
       (t.device? 0xE1#32).map (fun d => (d.state, d.shortAddr)) = some (.unplaced, none) ∧
       t.supply.windowDiscard = true) := by decide +kernel

theorem witness_LineSetSetsPowerAndQuiet_notice :
    (∀ x ∈ garden.link.slots, x.state ≠ .waiting) ∧
    (let s := garden
     (after (.lineSet 1#8 [0#8, 1#8]) s).link =
       (s.link.queueReply (replyFrame 0x1D#8 1#8 .ok [0#8, 0#8, 1#8])).post (.lineEvent .off .on .lineSet)) ∧
    (let s := lineAt .quiet none garden
     (after (.lineSet 1#8 [0#8, 0#8]) s).link =
       (s.link.queueReply (replyFrame 0x1D#8 1#8 .ok [0#8, 0#8, 0#8])).post (.lineEvent .off .quiet .lineSet)) := by
  decide +kernel

theorem witness_LineTimersStepTheLine :
    (let s := lineAt .rising (some 100000) garden
     let t := after .riseDone s
     s.Settled ∧ t.line.state = .sweeping ∧ t.line.stateEnd = some 110000 ∧ t.devs.nextWindow = some 100000 ∧
       t.link = s.link.post (.lineEvent .sweeping .rising .riseDone) ∧ after .sweepDone s = s) ∧
    (let s := lineAt .sweeping (some 100000) garden
     let t := after .sweepDone s
     t.line.state = .on ∧ t.line.stateEnd = none ∧ t.devs.nextWindow = some 105000 ∧
       t.link = s.link.post (.lineEvent .on .sweeping .sweepDone) ∧
       (let q := { run1 with state := .suspended, suspLine := true }
        let u := { owing q s with zones := zonesWith { bed with state := .due, unreachable := true } }
        (after .sweepDone u).arb.runs = [run1])) ∧
    (let s := lineAt .waking (some 100000) garden
     (after .wakeDone s).line.state = .on ∧ (after .wakeDone s).link = s.link) ∧
    (let s := lineAt .fault (some 100000) { garden with devs := { garden.devs with floor := 9#32 } }
     (after .coolDownDone s).line.state = .rising ∧ (after .coolDownDone s).devs.floor = 0#32 ∧
       (after .restart (lineAt .off (some 100000) s)).link = s.link.post (.lineEvent .rising .off .restart)) ∧
    (let s := lineAt .rising (some 100001) garden
     after .riseDone s = s ∧ after .wakeDone s = s ∧ after .coolDownDone s = s ∧ after .restart s = s) := by decide +kernel

theorem witness_OvercurrentAndResetFieldCutPower :
    (let s := { polling with line := { polling.line with overcurrents := [99] } }
     let t := after .overcurrent s
     s.Settled ∧ s.sched.entries.length = 16 ∧ t.line.state = .fault ∧ t.line.stateEnd = some 130000 ∧
       t.line.overcurrents = [99, 100] ∧ t.entry? 0 = some (Entry.blank true)) ∧
    (let s := { garden with line := { garden.line with overcurrents := [98, 99] } }
     let t := after .overcurrent s
     t.line.state = .off ∧ t.line.latched = true ∧ t.line.overcurrents = []) ∧
    (let s := lineAt .off none garden
     after .overcurrent s = s) ∧
    (let t := after .overcurrent watering
     t.arb.runs = [{ openRun with state := .suspended, suspLine := true, remainingS := 540, cycleS := none }] ∧
       t.arb.flowSum = 0 ∧ t.arb.openCount = 0 ∧ t.arb.openOrder = [] ∧ t.seqr.records = []) ∧
    ((after .overcurrent { watering with arb := { watering.arb with runs := [{ openRun with remainingS := 60 }] } }).arb.runs =
      []) ∧
    (let t := after (.resetField 1#8 [1#8]) polling
     polling.Takes [1#8] ∧ t.Answered (replyFrame 0x1F#8 1#8 .ok []) ∧ t.line.state = .off ∧
       t.line.stateEnd = some 105000 ∧ t.channel? 0xE1#32 1 = some { channel1 with fresh := false, staleAt := none } ∧
       (t.zone? 1).map (·.estimate) = some none) ∧
    (after (.resetField 1#8 [1#8]) (lineAt .off none garden)).line.stateEnd = some 105000 ∧
    (after (.resetField 1#8 [1#8]) (lineAt .fault (some 100001) garden)).line.stateEnd = some 100001 := by decide +kernel

theorem witness_OvercurrentAndResetFieldCutPower_notice :
    (after .overcurrent garden).link = garden.link.post (.lineEvent .fault .on .overcurrent) ∧
    (let s := { garden with line := { garden.line with state := .waking, overcurrents := [98, 99] } }
     (after .overcurrent s).link = s.link.post (.lineEvent .off .waking .overcurrentLatched)) ∧
    (let answered := garden.link.queueReply (replyFrame 0x1F#8 1#8 .ok [])
     (after (.resetField 1#8 [1#8]) garden).link = answered.post (.lineEvent .off .on .resetField) ∧
       (after (.resetField 1#8 [1#8]) (lineAt .off none garden)).link = answered) := by decide +kernel

/-- The frames of this section written out byte by byte, the CRC-8 last (section 11.9). -/
def announceBytes : List Byte := [0xC0#8, 0x00#8, 0x02#8, 0x04#8, 0x00#8, 0x00#8, 0x00#8, 0xC3#8, 0xF9#8]
def replyBytes : List Byte := [0x42#8, 0x10#8, 0x00#8, 0x02#8, 0x01#8, 0x02#8, 0xDB#8]
def openBytes : List Byte := [0x82#8, 0x33#8, 0x07#8, 0x01#8, 0x02#8, 0xCD#8]
def allCloseBytes : List Byte := [0x80#8, 0x33#8, 0x09#8, 0x01#8, 0x00#8, 0x2B#8]

/-- Frames that fail: a CRC that does not match, a byte too many, a byte too few, type 00, a length of 13, no bytes. -/
def failingBytes : List (List Byte) :=
  [[0x82#8, 0x33#8, 0x07#8, 0x01#8, 0x02#8, 0xCC#8], openBytes ++ [0#8], openBytes.dropLast,
   [0x02#8, 0x10#8, 0x00#8, 0x00#8, 0x8E#8],
   [0x41#8, 0x00#8, 0x00#8, 0x0D#8] ++ List.replicate 13 0#8 ++ [0xC2#8], []]

theorem test_field_frames_are_checked :
    fieldFrameOf announceBytes =
      some { type := .announce, address := 0#6, tag := 0#8, code := 2#8, payload := [0#8, 0#8, 0#8, 0xC3#8] } ∧
    fieldFrameOf replyBytes =
      some { type := .reply, address := 2#6, tag := 16#8, code := 0#8, payload := [1#8, 2#8] } ∧
    fieldFrameOf openBytes =
      some { type := .command, address := 2#6, tag := 0x33#8, code := 7#8, payload := [2#8] } ∧
    (∀ bytes ∈ failingBytes, fieldFrameOf bytes = none) := by decide +kernel

theorem witness_FieldBytes :
    FieldBytes 1 2#6 16#8 0#8 [1#8, 2#8] replyBytes ∧ FieldBytes 2 2#6 0x33#8 7#8 [2#8] openBytes ∧
    FieldBytes 3 0#6 0#8 2#8 [0#8, 0#8, 0#8, 0xC3#8] announceBytes ∧
    FieldBytes 1 2#6 16#8 0#8 (List.replicate 12 0#8)
      (FieldFrame.bytes { type := .reply, address := 2#6, tag := 16#8, code := 0#8, payload := List.replicate 12 0#8 }) ∧
    (∀ bytes ∈ failingBytes, FieldFails bytes) :=
  ⟨by unfold FieldBytes; decide +kernel, by unfold FieldBytes; decide +kernel, by unfold FieldBytes; decide +kernel,
   by unfold FieldBytes; decide +kernel, fun b hb => fieldFails_iff.2 (test_field_frames_are_checked.2.2.2 b hb)⟩

theorem witness_RepliesAreMatchedAndHeld_bytes :
    after (.foreignFrameStop replyBytes) polling = after (.fieldReplyReceived 2#6 16#8 0#8 [1#8, 2#8]) polling ∧
    (let s := announcing none
     (after (.foreignFrameStop announceBytes) s).devs.floor = 0xC3#32 ∧
       after (.foreignFrameStop announceBytes) s = after (.announceSlotEnd (.serial 0xC3#32)) s) ∧
    (∀ bytes ∈ failingBytes, (after (.foreignFrameStop bytes) polling).line.turn = none ∧
      after (.foreignFrameStop bytes) polling = after .fieldBadFrame polling) ∧
    after (.fieldReplyReceived 1#6 16#8 0#8 (List.replicate 13 0#8)) polling = after .fieldBadFrame polling ∧
    (after (.fieldReplyReceived 1#6 16#8 0#8 (List.replicate 12 0#8)) polling).entry? 0 = some (Entry.blank true) := by
  decide +kernel

def foreignOpen (num : Byte) : Instr :=
  .foreignFrameStop (FieldFrame.bytes { type := .command, address := 2#6, tag := 0x33#8, code := 7#8, payload := [num] })

theorem witness_ForeignTrafficIsHeard :
    (let t := after .foreignFrameStart garden
     garden.Settled ∧ t.line = { garden.line with foreignBusy := true, foreignLimit := some 100020 } ∧
       after .foreignFrameStart polling = { polling with line := { polling.line with foreignLimit := some 100020 } } ∧
       (let u := { t with timeBase := 100020 }
        (after .foreignFrameCutoff u).line = garden.line) ∧ after .foreignFrameCutoff t = t ∧
       (after (.foreignFrameStop announceBytes) t).line = { garden.line with guardEnd := some 100006 } ∧
       (∀ bytes ∈ failingBytes,
         (after (.foreignFrameStop bytes) t).line = { garden.line with guardEnd := some 100006 })) ∧
    (let s := lineAt .off none garden
     after .foreignFrameStart s = s ∧ after (.foreignFrameStop openBytes) s = s ∧
       (∀ bytes ∈ failingBytes, after (.foreignFrameStop bytes) s = s) ∧ after .fieldBadFrame s = s) ∧
    after (.foreignFrameStop openBytes) garden = after (foreignOpen 2#8) garden ∧
    (after (foreignOpen 2#8) garden).link =
      garden.link.post (.foreignActuation .opn (some 1) (some valve2) (some 2)) ∧
    (after (foreignOpen 3#8) garden).link = garden.link ∧ (after (foreignOpen 5#8) garden).link = garden.link ∧
    (after (.foreignFrameStop allCloseBytes) garden).link =
      garden.link.post (.foreignActuation .allClose none none none) ∧
    after (.foreignFrameStop [0x80#8, 0x33#8, 0x09#8, 0x00#8, 0xD0#8]) garden =
      after (.foreignFrameStop allCloseBytes) garden ∧
    (after (.foreignFrameStop [0x82#8, 0x33#8, 0x05#8, 0x00#8, 0x00#8]) garden).link = garden.link ∧
    (let s := { polling with line := { polling.line with
       foreignLimit := some 100010, turn := polling.line.turn.map fun u => { u with waitEnd := some 100000 } } }
     let t := after .turnTimeout s
     t.line.turn = none ∧ t.line.foreignBusy = true ∧ t.line.foreignLimit = some 100010 ∧
       (t.entry? 0).map (·.state) = some .queued ∧ t.line.reservation = some 0 ∧
       ((after .foreignFrameCutoff { t with timeBase := 100010 }).line.turn.map (·.entry)) = some 0) ∧
    (after .fieldBadFrame garden).line = { garden.line with guardEnd := some 100006 } := by decide +kernel

end Sys2Proof.Tests
end

