-- ==== Sys2Proof/Proofs/SupplyRecord.lean ====
section
/-!
PROOF. What SUPPLY_GET answers (R82), with the rules it rests on: how a request that the receiver takes reaches its owner,
how long the encoded numbers are, and when the master valve is open (R69).
-/

-- One theorem at a time, which keeps the number of Lean's threads small.
set_option Elab.async false
namespace Sys2Proof.Machine

/-! ## A request that is taken -/

/-- A whole request frame that is taken, with the length of its kind, reaches its owner in the state as it stands
(R173 to R175). -/
theorem takeFrame_frameTaken (kind tag : Byte) (owner : State → State) {lengthOk : Bool} {p : List Byte} {s : State}
    (h : s.Takes p) (hlen : lengthOk = true) :
    s.takeFrame kind tag p (State.frameTaken kind tag lengthOk owner) = owner s := by
  obtain ⟨hbreak, hhunts, hfits, hrdy⟩ := h
  subst hlen
  rw [takeFrame_hunting kind tag p _ hbreak hfits hhunts, frameTaken_ready kind tag owner hrdy]

/-- A request that only reads leaves nothing behind but its reply. -/
theorem answer_eq_replied (kind tag : Byte) (result : List Byte) (s : State) :
    s.answer kind tag result = s.replied kind tag .ok result := rfl

/-! ## Encoded numbers (section 11.9) -/

@[simp] theorem u16_length (n : Nat) : (u16 n).length = 2 := rfl

@[simp] theorem opt16_length (n : Option Nat) : (opt16 n).length = 2 := by
  cases n with
  | none => rfl
  | some n => exact u16_length n

theorem flagByte_eq_ite {b : Bool} {q : Prop} [Decidable q] (h : b = true ↔ q) :
    flagByte b = if q then 1#8 else 0#8 := by
  simp only [flagByte, h]

/-! ## The supply record (R69, R82) -/

theorem mvOut_iff {s : State} :
    s.mvOut = true ↔ s.supply.state = .lead ∨ s.supply.state = .on ∨ s.supply.state = .lag := by
  unfold State.mvOut
  cases s.supply.state <;> simp

theorem supplyBytes_length (s : State) : s.supplyBytes.length = 27 := by
  simp [State.supplyBytes]

theorem exec_supplyGet (tag : Byte) (p : List Byte) (s : State) :
    exec (.supplyGet tag p) s = .next (s.takeFrame 0x09#8 tag p (State.supplyGetRequest tag p)) := rfl

/-- A SUPPLY_GET that is taken is answered with the record and does nothing else (R82). -/
theorem supplyGet_onlyAnswers (tag : Byte) {s : State} (h : s.Takes []) :
    OnlyAnswers (.supplyGet tag []) 0x09#8 tag s.supplyBytes s := by
  have hrequest : s.takeFrame 0x09#8 tag [] (State.supplyGetRequest tag []) = s.answer 0x09#8 tag s.supplyBytes :=
    takeFrame_frameTaken 0x09#8 tag (fun s => s.answer 0x09#8 tag s.supplyBytes) h rfl
  rw [OnlyAnswers, exec_supplyGet, hrequest, answer_eq_replied]

/-- Settles O30: the bytes of the statement are the model's encoding of the record, with the master valve told by the
supply state. -/
theorem supplyGetReportsTheRecord : Obligations.SupplyGetReportsTheRecord := by
  intro tag s htakes u masterOpen expected bytes
  have hopen : s.mvOut = true ↔ masterOpen := mvOut_iff
  have hflow : s.expectedFlow = expected := rfl
  have hbytes : s.supplyBytes = bytes := by
    simp only [State.supplyBytes, flagByte_eq_ite hopen, hflow, State.uptime, List.append_assoc, List.cons_append,
      List.nil_append, bytes, u]
  rw [← hbytes]
  exact ⟨supplyGet_onlyAnswers tag htakes, supplyBytes_length s, hopen⟩

end Sys2Proof.Machine
end

