-- ==== Sys2Proof/Proofs/GridKept.lean ====
section
/-!
PROOF. Which commands keep the Window Grid: how a whole frame reaches the request of its KIND, that the effects of the
other blocks' requests, timers, pins and lines keep the grid, and what a power-on reset leaves of it.
-/

-- One theorem at a time, which keeps the number of Lean's threads small.
set_option Elab.async false
namespace Sys2Proof.Machine

/-! ## Whole frames -/

theorem request_of_not_isRequestKind {kind : Byte} (h : isRequestKind kind = false) (tag : Byte) (p : List Byte)
    (s : State) : s.request kind tag p = s.unknownRequest kind tag := by
  unfold State.request
  unfold isRequestKind at h
  split <;> simp_all

/-- An UNKNOWN_KIND brings its frame unless its KIND is a request's (log 11). -/
theorem frame?_unknownKind_eq_some {kind tag : Byte} {p : List Byte} {f : HostFrame} :
    (Instr.unknownKind kind tag p).frame? = some f ↔ isRequestKind kind = false ∧ requestFrame kind tag p = f := by
  cases h : isRequestKind kind <;> simp [Instr.frame?, h]

theorem frame?_unknownKind_eq_none {kind tag : Byte} {p : List Byte} :
    (Instr.unknownKind kind tag p).frame? = none ↔ isRequestKind kind = true := by
  cases h : isRequestKind kind <;> simp [Instr.frame?, h]

/-- A command that brings a whole frame hands it to the request of its KIND (R175). -/
theorem exec_frame {c : Instr} {f : HostFrame} (hf : c.frame? = some f) (s : State) :
    exec c s = .next (s.takeFrame f.kind f.tag f.payload (State.request f.kind f.tag f.payload)) := by
  cases c
  case unknownKind kind tag p =>
    obtain ⟨hk, rfl⟩ := frame?_unknownKind_eq_some.mp hf
    have hown : State.request kind tag p = State.unknownRequest kind tag := funext (request_of_not_isRequestKind hk tag p)
    simp only [requestFrame, exec, execUnknownKind, hk, hown, Bool.false_eq_true, if_false]
  all_goals cases hf
  all_goals rfl

/-- A frame that is not taken byte by byte finds a receiver that hunts, once a gap that has grown too long is closed. -/
theorem closeGap_receiver_of_not_bytewise {c : Instr} {s : State} (hf : c.frame?.isSome = true)
    (hb : c.bytewise s = false) : (s.link.closeGap s.timeBase).receiver = .hunting := by
  unfold Link.closeGap Link.gapPassed
  cases hr : s.link.receiver with
  | hunting => simpa using hr
  | inFrame taken last =>
    have hlast : last + 50 < s.timeBase := by
      unfold Instr.bytewise at hb
      split at hb
      · cases hb
      · simpa only [hr, hf, Bool.true_and, decide_eq_false_iff_not, Nat.not_le] using hb
    simp [hlast, Link.countError]

/-- A frame that is not taken byte by byte is ignored in a break, is a link error, or reaches the request of its KIND
after a gap has been closed (R173, R180). -/
theorem exec_frame_cases {c : Instr} {f : HostFrame} {s t : State} (hf : c.frame? = some f) (hb : c.bytewise s = false)
    (h : exec c s = .next t) :
    t = s ∨ t = s.mapLink Link.countError ∨
      t = (s.mapLink (Link.closeGap s.timeBase)).request f.kind f.tag f.payload := by
  have hr := closeGap_receiver_of_not_bytewise (by rw [hf]; rfl) hb
  rw [exec_frame hf] at h
  cases h
  unfold State.takeFrame
  split
  · exact .inl rfl
  · split
    · exact .inr (.inl rfl)
    · exact .inr (.inr (if_pos hr))

/-! ## What keeps the grid

The grid is part of the frame, so an operation that keeps the frame keeps the grid. The updates of the other blocks keep
the grid also where they change the frame; `.frame.grid` is the form in which both are said. -/

@[simp] theorem frame_grid_mapClock (f : Clock → Clock) (s : State) : (s.mapClock f).frame.grid = s.frame.grid := rfl

@[simp] theorem frame_grid_mapZones (f : List Zone → List Zone) (s : State) :
    (s.mapZones f).frame.grid = s.frame.grid := rfl

@[simp] theorem frame_grid_modZone (z : Nat) (f : Zone → Zone) (s : State) :
    (s.modZone z f).frame.grid = s.frame.grid := by
  unfold State.modZone
  split <;> rfl

@[simp] theorem frame_grid_mapSupply (f : Supply → Supply) (s : State) :
    (s.mapSupply f).frame.grid = s.frame.grid := rfl

@[simp] theorem frame_grid_mapPoller (f : Poller → Poller) (s : State) :
    (s.mapPoller f).frame.grid = s.frame.grid := rfl

@[simp] theorem frame_grid_mapDevs (f : DeviceManager → DeviceManager) (s : State) :
    (s.mapDevs f).frame.grid = s.frame.grid := rfl

@[simp] theorem frame_grid_mapSched (f : Scheduler → Scheduler) (s : State) :
    (s.mapSched f).frame.grid = s.frame.grid := rfl

@[simp] theorem frame_grid_mapLine (f : Line → Line) (s : State) : (s.mapLine f).frame.grid = s.frame.grid := rfl

@[simp] theorem frame_grid_mapLink (f : Link → Link) (s : State) : (s.mapLink f).frame.grid = s.frame.grid := rfl

@[simp] theorem frame_grid_setRainIn (level : PinLevel) (s : State) :
    (s.setRainIn level).frame.grid = s.frame.grid := rfl

/-! ## How a request is answered -/

@[simp] theorem frame_refuse (kind tag : Byte) (status : ReplyStatus) (s : State) :
    (s.refuse kind tag status).frame = s.frame := frame_reply kind tag status [] s

@[simp] theorem frame_answer (kind tag : Byte) (result : List Byte) (s : State) :
    (s.answer kind tag result).frame = s.frame := frame_reply kind tag .ok result s

@[simp] theorem frame_grid_accept (kind tag : Byte) (result : List Byte) {effect : State → State}
    (he : ∀ s, (effect s).frame.grid = s.frame.grid) (s : State) :
    (s.accept kind tag result effect).frame.grid = s.frame.grid := by
  simp [State.accept, he]

@[simp] theorem frame_grid_acceptThen (kind tag : Byte) (result : State → List Byte) {effect : State → State}
    (he : ∀ s, (effect s).frame.grid = s.frame.grid) (s : State) :
    (s.acceptThen kind tag result effect).frame.grid = s.frame.grid := by
  simp [State.acceptThen, State.replyThen, he]

@[simp] theorem frame_grid_forward (reqKind tag : Byte) (kind : ForwardKind) (channel : Nat)
    (transaction : Nat → Request) (s : State) :
    (s.forward reqKind tag kind channel transaction).frame.grid = s.frame.grid := by
  unfold State.forward
  (repeat' split) <;> simp

/-- A frame that is taken is an overrun, is refused for its length, or does what its owner makes of it (R174, R175): a
part of the grid that the owner keeps is kept. -/
theorem frameTaken_grid {α : Type} (part : Grid → α) (kind tag : Byte) (lengthOk : Bool) {owner : State → State}
    (ho : ∀ s, part (owner s).grid = part s.grid) (s : State) :
    part (s.frameTaken kind tag lengthOk owner).grid = part s.grid := by
  unfold State.frameTaken
  split
  · rfl
  · split
    · rfl
    · exact ho s

theorem frame_grid_frameTaken (kind tag : Byte) (lengthOk : Bool) {owner : State → State}
    (ho : ∀ s, (owner s).frame.grid = s.frame.grid) (s : State) :
    (s.frameTaken kind tag lengthOk owner).frame.grid = s.frame.grid :=
  frameTaken_grid id kind tag lengthOk ho s

/-! ## The effects of the accepted requests -/

@[simp] theorem frame_grid_startsFound (s : State) : s.startsFound.frame.grid = s.frame.grid := by
  unfold State.startsFound
  dsimp only
  split <;> simp

@[simp] theorem frame_grid_endsFound (s : State) : s.endsFound.frame.grid = s.frame.grid := by
  unfold State.endsFound
  dsimp only
  split <;> simp

@[simp] theorem frame_grid_judgeReport (s : State) : s.judgeReport.frame.grid = s.frame.grid := by
  have hfreeze : (if s.hold.freezes then s.freezeStart else s).frame.grid = s.frame.grid := by split <;> simp
  unfold State.judgeReport
  dsimp only
  generalize (if s.hold.freezes then s.freezeStart else s) = t at hfreeze
  split <;> simp [hfreeze]

@[simp] theorem frame_grid_rejudge (c : HoldConfig) (s : State) : (s.rejudge c).frame.grid = s.frame.grid := by
  unfold State.rejudge
  dsimp only
  split <;> simp

@[simp] theorem frame_grid_holdSet (minutes : Nat) (s : State) : (s.holdSet minutes).frame.grid = s.frame.grid := by
  unfold State.holdSet
  dsimp only
  split <;> simp

@[simp] theorem frame_grid_manualEnd (s : State) : s.manualEnd.frame.grid = s.frame.grid := by
  unfold State.manualEnd
  split <;> simp

@[simp] theorem frame_grid_clearTrip (s : State) : s.clearTrip.frame.grid = s.frame.grid := by
  simp [State.clearTrip]

@[simp] theorem frame_reconfigured (z : Nat) (s : State) : (s.reconfigured z).frame = s.frame := by
  unfold State.reconfigured
  dsimp only
  (repeat' split) <;> simp

@[simp] theorem frame_grid_clearFault (z : Nat) (s : State) : (s.clearFault z).frame.grid = s.frame.grid := by
  unfold State.clearFault
  split <;> simp

@[simp] theorem frame_recalibrate (n : Serial) (s : State) : (s.recalibrate n).frame = s.frame := by
  unfold State.recalibrate
  dsimp only
  split <;> simp

@[simp] theorem frame_enrolRecord (d : Device) (interval : Nat) (s : State) :
    (s.enrolRecord d interval).frame = s.frame := by
  unfold State.enrolRecord
  dsimp only
  split <;> simp

@[simp] theorem frame_madeRoom (s : State) : (s.makeRoom.getD s).frame = s.frame := by
  cases h : s.makeRoom with
  | none => rfl
  | some t => exact frame_makeRoom h

@[simp] theorem frame_retire (n : Serial) (s : State) : (s.retire n).frame = s.frame := by
  simp [State.retire]

@[simp] theorem frame_grid_startSweep (s : State) : s.startSweep.frame.grid = s.frame.grid := by
  simp [State.startSweep]

@[simp] theorem frame_grid_setPower (on : Bool) (s : State) : (s.setPower on).frame.grid = s.frame.grid := by
  unfold State.setPower
  (repeat' split) <;> simp

@[simp] theorem frame_grid_lineSet (on quiet : Bool) (s : State) : (s.lineSet on quiet).frame.grid = s.frame.grid := by
  unfold State.lineSet
  dsimp only
  split <;> simp

@[simp] theorem frame_grid_resetZones (s : State) : s.resetZones.frame.grid = s.frame.grid := by
  unfold State.resetZones
  rw [frame_forEach, frame_grid_mapZones]
  intro z t
  (repeat' split) <;> simp

@[simp] theorem frame_grid_resetPlan (s : State) : s.resetPlan.frame.grid = s.frame.grid := by
  simp [State.resetPlan]

@[simp] theorem frame_grid_resetLine (s : State) : s.resetLine.frame.grid = s.frame.grid := by
  unfold State.resetLine
  dsimp only
  (repeat' split) <;> simp

@[simp] theorem frame_grid_staleAll (s : State) : s.staleAll.frame.grid = s.frame.grid := by
  unfold State.staleAll
  rw [frame_forEach, frame_grid_mapPoller]
  exact fun c t => frame_reportChannel c.serial c.channel t

@[simp] theorem frame_grid_resetFieldAll (s : State) : s.resetFieldAll.frame.grid = s.frame.grid := by
  simp [State.resetFieldAll]

@[simp] theorem frame_grid_resetAll (tag : Byte) (s : State) : (s.resetAll tag).frame.grid = s.frame.grid := rfl

/-! ## The requests -/

/-- The KINDs of the requests that can change the grid: SET_TIME and the four of the grid (R103, R105 to R109). -/
def gridKinds : List Nat := [0x03, 0x12, 0x13, 0x14, 0x15]

/-- A request of any other KIND keeps the grid: its owner refuses it, answers it, or accepts it with an effect on the
other blocks. -/
theorem frame_grid_request {kind : Byte} (hk : kind.toNat ∉ gridKinds) (tag : Byte) (p : List Byte) (s : State) :
    (s.request kind tag p).frame.grid = s.frame.grid := by
  unfold State.request
  split
  case h_3 heq | h_18 heq | h_19 heq | h_20 heq | h_21 heq => exact absurd (by simp [heq, gridKinds]) hk
  all_goals
    refine frame_grid_frameTaken _ _ _ (fun s => ?_) s
    try dsimp only
    (repeat' split) <;> simp

/-- Only the commands that set the grid bring a frame of one of those KINDs. -/
theorem kind_not_mem_gridKinds {c : Instr} {f : HostFrame} (hf : c.frame? = some f) (hg : c.setsGrid = false) :
    f.kind.toNat ∉ gridKinds := by
  cases c
  case setTime | gridWindow | gridWrite | gridRead | gridSwap => cases hg
  case unknownKind kind tag p =>
    obtain ⟨hk, rfl⟩ := frame?_unknownKind_eq_some.mp hf
    simp only [isRequestKind, Bool.and_eq_false_iff, decide_eq_false_iff_not] at hk
    simp only [requestFrame, gridKinds, List.mem_cons, List.not_mem_nil, or_false]
    omega
  all_goals cases hf <;> simp [requestFrame, gridKinds]

/-! ## The effects of the timers, the pins and the lines -/

@[simp] theorem frame_grid_endSweep (s : State) : s.endSweep.frame.grid = s.frame.grid := by
  simp [State.endSweep]

@[simp] theorem frame_grid_trips (s : State) : s.trips.frame.grid = s.frame.grid := by
  unfold State.trips
  dsimp only
  split <;> simp

@[simp] theorem frame_startSpacing (op : FieldOp) (s : State) : (s.startSpacing op).frame = s.frame := by
  unfold State.startSpacing
  split <;> simp

@[simp] theorem frame_awaitReply (t : Turn) (ph : TurnPhase) (s : State) : (s.awaitReply t ph).frame = s.frame := by
  simp [State.awaitReply]

@[simp] theorem frame_frameSent (t : Turn) (e : Entry) (s : State) : (s.frameSent t e).frame = s.frame := by
  unfold State.frameSent
  dsimp only
  (repeat' split) <;> simp

@[simp] theorem frame_leaveTurn (i : Nat) (s : State) : (s.leaveTurn i).frame = s.frame := by
  unfold State.leaveTurn
  (repeat' split) <;> simp

@[simp] theorem frame_holdEntry (i : Nat) (e : Entry) (payload : List Byte) (s : State) :
    (s.holdEntry i e payload).frame = s.frame := by
  unfold State.holdEntry
  dsimp only
  split <;> simp

@[simp] theorem frame_answered (i : Nat) (status : Byte) (payload : List Byte) (s : State) :
    (s.answered i status payload).frame = s.frame := by
  unfold State.answered
  (repeat' split) <;> simp

@[simp] theorem frame_countStray (s : State) : s.countStray.frame = s.frame := by
  simp [State.countStray]

@[simp] theorem frame_fieldReply (address : BitVec 6) (tag status : Byte) (payload : List Byte) (s : State) :
    (s.fieldReply address tag status payload).frame = s.frame := by
  unfold State.fieldReply
  dsimp only
  split <;> simp

@[simp] theorem frame_failTurn (t : Turn) (s : State) : (s.failTurn t).frame = s.frame := by
  unfold State.failTurn
  split <;> simp

@[simp] theorem frame_loseArbitration (t : Turn) (e : Entry) (s : State) : (s.loseArbitration t e).frame = s.frame := by
  unfold State.loseArbitration
  dsimp only
  split <;> simp

@[simp] theorem frame_foreignCommand (f : FieldFrame) (s : State) : (s.foreignCommand f).frame = s.frame := by
  unfold State.foreignCommand
  dsimp only
  (repeat' split) <;> simp

@[simp] theorem frame_announced (payload : List Byte) (s : State) : (s.announced payload).frame = s.frame := by
  unfold State.announced
  split <;> simp

@[simp] theorem frame_handOn (f : FieldFrame) (s : State) : (s.handOn f).frame = s.frame := by
  unfold State.handOn
  split <;> simp

@[simp] theorem frame_frameFails (s : State) : s.frameFails.frame = s.frame := by
  unfold State.frameFails
  split <;> simp

@[simp] theorem frame_hearFrame (f : Option FieldFrame) (s : State) : (s.hearFrame f).frame = s.frame := by
  unfold State.hearFrame
  (repeat' split) <;> simp

@[simp] theorem frame_grid_watchContact (s : State) : s.watchContact.frame.grid = s.frame.grid := by
  unfold State.watchContact
  split <;> simp

@[simp] theorem frame_grid_contactSettles (s : State) : s.contactSettles.frame.grid = s.frame.grid := by
  unfold State.contactSettles
  dsimp only
  split <;> simp

@[simp] theorem frame_grid_weatherExpires (s : State) : s.weatherExpires.frame.grid = s.frame.grid := by
  simp [State.weatherExpires]

@[simp] theorem frame_grid_judgeHigh (w : Window) (s : State) : (s.judgeHigh w).frame.grid = s.frame.grid := by
  unfold State.judgeHigh
  dsimp only
  (repeat' split) <;> simp

@[simp] theorem frame_grid_actLow (w : Window) (s : State) : (s.actLow w).frame.grid = s.frame.grid := by
  unfold State.actLow
  (repeat' split) <;> simp

@[simp] theorem frame_grid_judgeLow (w : Window) (s : State) : (s.judgeLow w).frame.grid = s.frame.grid := by
  unfold State.judgeLow
  (repeat' split) <;> simp

@[simp] theorem frame_grid_judgeLeak (w : Window) (s : State) : (s.judgeLeak w).frame.grid = s.frame.grid := by
  unfold State.judgeLeak
  (repeat' split) <;> simp

@[simp] theorem frame_grid_endWindow (s : State) : s.endWindow.frame.grid = s.frame.grid := by
  unfold State.endWindow
  dsimp only
  (repeat' split) <;> simp

/-! ## The commands -/

/-- A break that performs no reset keeps the grid. -/
theorem frame_grid_linkBreak {s t : State} (hr : Instr.resets .linkBreak s = false) (h : exec .linkBreak s = .next t) :
    t.frame.grid = s.frame.grid := by
  simp only [Instr.resets, Bool.and_eq_false_iff, Bool.not_eq_false'] at hr
  cases h
  dsimp only
  split
  · rfl
  · rename_i hopen
    rw [if_neg (by simp [hr.resolve_left hopen])]
    simp

/-- The end of a frame that is not the reply of RESET ALL keeps the grid. -/
theorem frame_grid_hostFrameSent {s t : State} (hr : Instr.resets .hostFrameSent s = false)
    (h : exec .hostFrameSent s = .next t) : t.frame.grid = s.frame.grid := by
  unfold Instr.resets at hr
  cases h
  cases htx : s.link.tx with
  | none => rfl
  | some f =>
    simp only [htx] at hr
    simp [hr]

/-- An event, which is no frame of the host, keeps the grid unless it is a reset or a slot boundary. The events beyond the
named cases change nothing or end with effects on the other blocks, each of which keeps the grid by its lemma above. -/
theorem exec_event_grid {c : Instr} {s t : State} (hf : c.frame? = none) (hg : c.setsGrid = false)
    (hr : c.resets s = false) (hb : c.bytewise s = false) (h : exec c s = .next t) : t.frame.grid = s.frame.grid := by
  cases c
  case powerOnReset => cases hr
  case linkError => cases hb
  case slotBoundary => cases hg
  case linkBreak => exact frame_grid_linkBreak hr h
  case hostFrameSent => exact frame_grid_hostFrameSent hr h
  case unknownKind kind tag p =>
    rw [exec, execUnknownKind, if_pos (frame?_unknownKind_eq_none.mp hf)] at h
    cases h
    rfl
  all_goals cases hf
  all_goals
    cases h
    try dsimp only
    (repeat' split) <;> simp

/-- A frame that is not taken byte by byte and whose command does not set the grid keeps it. -/
theorem exec_frame_grid {c : Instr} {f : HostFrame} {s t : State} (hf : c.frame? = some f) (hg : c.setsGrid = false)
    (hb : c.bytewise s = false) (h : exec c s = .next t) : t.frame.grid = s.frame.grid := by
  obtain rfl | rfl | rfl := exec_frame_cases hf hb h
  · rfl
  · rfl
  · rw [frame_grid_request (kind_not_mem_gridKinds hf hg), frame_grid_mapLink]

/-- What does not set the grid and performs no reset keeps it. -/
theorem exec_grid {c : Instr} {s t : State} (hg : c.setsGrid = false) (hr : c.resets s = false)
    (hb : c.bytewise s = false) (h : exec c s = .next t) : t.grid = s.grid := by
  cases hf : c.frame? with
  | none => exact exec_event_grid hf hg hr hb h
  | some f => exact exec_frame_grid hf hg hb h

/-- A command that performs a power-on reset leaves the reset contents of the grid (R104, R183). -/
theorem exec_reset_grid {c : Instr} {s t : State} (hr : c.resets s = true) (h : exec c s = .next t) :
    t.grid = Grid.reset := by
  cases c
  case powerOnReset =>
    cases h
    rfl
  case linkBreak =>
    simp only [Instr.resets, Bool.and_eq_true, Bool.not_eq_true'] at hr
    rw [exec, execLinkBreak, if_neg (by simp [hr.1])] at h
    simp only [hr.2, if_true] at h
    cases h
    rfl
  case hostFrameSent =>
    unfold Instr.resets at hr
    cases htx : s.link.tx with
    | none => simp [htx] at hr
    | some f =>
      simp only [htx] at hr
      simp only [exec, execHostFrameSent, htx, hr, if_true] at h
      cases h
      rfl
  all_goals cases hr

end Sys2Proof.Machine
end

