-- ==== Sys2Proof/Proofs/WindowGrid.lean ====
section
/-!
PROOF. The Window Grid (R104 to R110): the cursor's steps, what is read and written from it, the swap at a boundary, and
what each command can do to the grid.
-/

-- One theorem at a time, which keeps the number of Lean's threads small.
set_option Elab.async false
namespace Sys2Proof.Machine

/-! ## The cursor (R106) -/

theorem repeat_succ_comm {α : Type} (f : α → α) (n : Nat) (a : α) : Nat.repeat f (n + 1) a = Nat.repeat f n (f a) := by
  induction n with
  | zero => rfl
  | succ n ih => exact congrArg f ih

/-- Two grids differ at most in the cursor. -/
def Grid.OnlyCursor (g h : Grid) : Prop := h = { g with curZone := h.curZone, curSlot := h.curSlot }

theorem onlyCursor_trans {g h k : Grid} (hh : g.OnlyCursor h) (hk : h.OnlyCursor k) : g.OnlyCursor k := by
  unfold Grid.OnlyCursor at *
  rw [hh] at hk
  exact hk

theorem onlyCursor_step (g : Grid) : g.OnlyCursor g.step := by
  unfold Grid.OnlyCursor Grid.step
  (repeat' split) <;> rfl

theorem onlyCursor_repeat_step (n : Nat) (g : Grid) : g.OnlyCursor (Nat.repeat Grid.step n g) := by
  induction n with
  | zero => rfl
  | succ n ih => exact onlyCursor_trans ih (onlyCursor_step _)

/-- A step does not read STAGING. -/
theorem step_with_staging (g : Grid) (b : Bank) :
    ({ g with staging := b } : Grid).step = { g.step with staging := b } := by
  unfold Grid.step
  dsimp only
  (repeat' split) <;> rfl

theorem repeat_step_with_staging (n : Nat) (g : Grid) (b : Bank) :
    Nat.repeat Grid.step n { g with staging := b } = { Nat.repeat Grid.step n g with staging := b } := by
  induction n with
  | zero => rfl
  | succ n ih => exact (congrArg Grid.step ih).trans (step_with_staging _ b)

theorem step_acrossSlots {g : Grid} (ho : g.order = .acrossSlots) :
    (g.curSlot < g.slotEnd → g.step = { g with curSlot := g.curSlot + 1 }) ∧
    (g.curSlot = g.slotEnd → g.curZone < g.zoneEnd →
      g.step = { g with curSlot := g.slotStart, curZone := g.curZone + 1 }) ∧
    (g.curSlot = g.slotEnd → g.curZone = g.zoneEnd →
      g.step = { g with curSlot := g.slotStart, curZone := g.zoneStart }) := by
  unfold Grid.step
  simp only [ho]
  refine ⟨fun h => if_pos h, fun h hz => ?_, fun h hz => ?_⟩
  · rw [if_neg (by omega), if_pos hz]
  · rw [if_neg (by omega), if_neg (by omega)]

theorem step_acrossZones {g : Grid} (ho : g.order = .acrossZones) :
    (g.curZone < g.zoneEnd → g.step = { g with curZone := g.curZone + 1 }) ∧
    (g.curZone = g.zoneEnd → g.curSlot < g.slotEnd →
      g.step = { g with curZone := g.zoneStart, curSlot := g.curSlot + 1 }) ∧
    (g.curZone = g.zoneEnd → g.curSlot = g.slotEnd →
      g.step = { g with curZone := g.zoneStart, curSlot := g.slotStart }) := by
  unfold Grid.step
  simp only [ho]
  refine ⟨fun h => if_pos h, fun h hk => ?_, fun h hk => ?_⟩
  · rw [if_neg (by omega), if_pos hk]
  · rw [if_neg (by omega), if_neg (by omega)]

/-! ## Reading and writing (R107, R108) -/

/-- The cells read are those under the cursor as it steps, and the cursor is left after the last of them. -/
theorem read_eq (b : Bank) (n : Nat) : ∀ g : Grid, g.read b n =
    ((List.range n).map fun k =>
        b.isOpen (Nat.repeat Grid.step k g).curZone (Nat.repeat Grid.step k g).curSlot, Nat.repeat Grid.step n g) := by
  induction n with
  | zero => intro g; rfl
  | succ n ih =>
    intro g
    simp only [Grid.read, ih, List.range_succ_eq_map, List.map_cons, List.map_map, Function.comp_def,
      Nat.succ_eq_add_one, repeat_succ_comm]
    rfl

/-- A write leaves the cursor one step on for each value, and changes STAGING alone besides. -/
theorem write_eq (vs : List Bool) : ∀ g : Grid,
    g.write vs = { Nat.repeat Grid.step vs.length g with staging := (g.write vs).staging } := by
  induction vs with
  | nil => intro g; rfl
  | cons v rest ih =>
    intro g
    simp only [Grid.write, List.length_cons, step_with_staging, repeat_succ_comm]
    exact (ih _).trans (by rw [repeat_step_with_staging])

theorem read_onlyCursor (b : Bank) (n : Nat) (g : Grid) : g.OnlyCursor (g.read b n).2 := by
  rw [read_eq]
  exact onlyCursor_repeat_step n g

theorem write_swapArmed (vs : List Bool) (g : Grid) : (g.write vs).swapArmed = g.swapArmed := by
  have hcursor := onlyCursor_repeat_step vs.length g
  rw [write_eq, hcursor]

theorem read_swapArmed (b : Bank) (n : Nat) (g : Grid) : (g.read b n).2.swapArmed = g.swapArmed := by
  rw [read_onlyCursor b n g]

theorem write_cursor (vs : List Bool) (g : Grid) :
    (g.write vs).curZone = (Nat.repeat Grid.step vs.length g).curZone ∧
      (g.write vs).curSlot = (Nat.repeat Grid.step vs.length g).curSlot := by
  rw [write_eq]
  exact ⟨rfl, rfl⟩

/-! ## Boundaries (R103, R110) -/

theorem crosses_iff {c : Clock} {minute : Nat} : c.crosses minute = true ↔ c.valid = true ∧ minute / 30 ≠ c.slot := by
  simp [Clock.crosses]

theorem atBoundary_iff {c : Clock} : c.atBoundary = true ↔ c.valid = true ∧ c.minute % 30 = 29 ∧ c.second = 59 := by
  simp [Clock.atBoundary, and_assoc]

theorem frame_grid_boundary (s : State) : s.boundary.frame.grid = s.grid.swap := congrArg Frame.grid (frame_boundary s)

/-- An accepted SET_TIME swaps exactly where it crosses a boundary (R103). -/
theorem frame_grid_setTime (day minute : Nat) (s : State) :
    (s.setTime day minute).frame.grid = if s.clock.crosses minute then s.grid.swap else s.frame.grid := by
  unfold State.setTime
  dsimp only
  cases hv : s.clock.valid with
  | false =>
    have hc : s.clock.crosses minute = false := by simp [Clock.crosses, hv]
    simp [hc]
  | true =>
    simp only [Bool.not_true, Bool.false_eq_true, if_false]
    cases s.clock.crosses minute <;> split <;> simp [frame_grid_boundary]

theorem frame_grid_minuteBoundary (s : State) : s.minuteBoundary.frame.grid = s.grid.swap := by
  unfold State.minuteBoundary
  dsimp only
  split <;> simp [frame_grid_boundary]

/-- SLOT_BOUNDARY swaps at a boundary and does nothing at another moment (R110, log 2). -/
theorem exec_slotBoundary_grid {s t : State} (h : exec .slotBoundary s = .next t) :
    t.grid = if s.clock.atBoundary then s.grid.swap else s.grid := by
  cases h
  split
  · exact (congrArg Frame.grid (frame_finish _)).trans (frame_grid_minuteBoundary s)
  · rfl

theorem accept_setTime_grid (tag : Byte) (result : List Byte) (day minute : Nat) (s : State) :
    (s.accept 0x03#8 tag result (State.setTime day minute)).grid =
      if s.clock.crosses minute then s.grid.swap else s.grid :=
  (congrArg Frame.grid (frame_finish _)).trans (frame_grid_setTime day minute _)

/-- SET_TIME swaps only where it crosses a boundary (R103). -/
theorem setTimeRequest_grid (tag : Byte) (p : List Byte) (s : State) :
    (s.setTimeRequest tag p).grid = s.grid ∨
      s.clock.crosses (u16At p 2) = true ∧ (s.setTimeRequest tag p).grid = s.grid.swap := by
  unfold State.setTimeRequest State.frameTaken
  dsimp only
  (repeat' split)
  · exact .inl rfl
  · exact .inl rfl
  · exact .inl rfl
  · rw [accept_setTime_grid]
    cases s.clock.crosses (u16At p 2) with
    | false => exact .inl rfl
    | true => exact .inr ⟨rfl, rfl⟩

/-- A SET_TIME that is taken with a minute of the day (R102, R103). -/
theorem exec_setTime_grid {b0 b1 b2 b3 tag : Byte} {s t : State} (ht : s.Takes [b0, b1, b2, b3])
    (hm : b2.toNat * 256 + b3.toNat ≤ 1439) (h : exec (.setTime tag [b0, b1, b2, b3]) s = .next t) :
    t.grid = if s.clock.crosses (b2.toNat * 256 + b3.toNat) then s.grid.swap else s.grid := by
  have htaken : s.takeFrame 0x03#8 tag [b0, b1, b2, b3] (State.setTimeRequest tag [b0, b1, b2, b3]) = _ :=
    takeFrame_frameTaken 0x03#8 tag _ ht rfl
  cases h
  rw [htaken]
  exact (congrArg State.grid (if_neg (Nat.not_lt.mpr hm))).trans (accept_setTime_grid tag _ _ _ s)

/-! ## The requests of the grid (R105 to R109) -/

theorem windowed_swapArmed {p : List Byte} {g g' : Grid} (h : g.windowed p = some g') :
    g'.swapArmed = g.swapArmed := by
  simp only [Grid.windowed, Option.bind_eq_some_iff, Option.ite_none_right_eq_some, Option.some.injEq] at h
  obtain ⟨order, -, -, rfl⟩ := h
  rfl

theorem gridWindowRequest_swapArmed (tag : Byte) (p : List Byte) (s : State) :
    (s.gridWindowRequest tag p).grid.swapArmed = s.grid.swapArmed := by
  refine frameTaken_grid Grid.swapArmed _ _ _ (fun s => ?_) s
  cases hw : s.grid.windowed p with
  | none => rfl
  | some g => exact windowed_swapArmed hw

theorem gridWriteRequest_swapArmed (tag : Byte) (p : List Byte) (s : State) :
    (s.gridWriteRequest tag p).grid.swapArmed = s.grid.swapArmed := by
  refine frameTaken_grid Grid.swapArmed _ _ _ (fun s => ?_) s
  cases cellValues p with
  | none => rfl
  | some values =>
    dsimp only
    split
    · rfl
    · exact write_swapArmed values s.grid

theorem gridReadRequest_swapArmed (tag : Byte) (p : List Byte) (s : State) :
    (s.gridReadRequest tag p).grid.swapArmed = s.grid.swapArmed := by
  refine frameTaken_grid Grid.swapArmed _ _ _ (fun s => ?_) s
  dsimp only
  cases s.grid.bankOf (byteAt p 0) with
  | none => rfl
  | some b =>
    dsimp only
    split
    · exact read_swapArmed b (byteAt p 1) s.grid
    · rfl

theorem gridSwapRequest_grid (tag : Byte) (p : List Byte) (s : State) :
    (s.gridSwapRequest tag p).grid = s.grid ∨ (s.gridSwapRequest tag p).grid = { s.grid with swapArmed := true } := by
  unfold State.gridSwapRequest State.frameTaken
  split
  · exact .inl rfl
  · split
    · exact .inl rfl
    · exact .inr rfl

/-! ## What a command can do to the grid -/

/-- A frame that is not taken byte by byte keeps the grid or reaches the request of its KIND, in a state that differs in
the link alone. -/
theorem exec_request_cases {c : Instr} {f : HostFrame} {s t : State} (hf : c.frame? = some f)
    (hb : c.bytewise s = false) (h : exec c s = .next t) :
    t.grid = s.grid ∨ ∃ l, t = { s with link := l }.request f.kind f.tag f.payload := by
  obtain rfl | rfl | rfl := exec_frame_cases hf hb h
  · exact .inl rfl
  · exact .inl rfl
  · exact .inr ⟨_, rfl⟩

/-- The commands that move the cursor by their own rules (R105, R107, R108). -/
def movesCursor : Instr → Bool
  | .gridWindow .. | .gridWrite .. | .gridRead .. => true
  | _ => false

/-- They neither arm the swap nor apply it. -/
theorem exec_movesCursor_swapArmed {c : Instr} {s t : State} (hc : movesCursor c = true) (hb : c.bytewise s = false)
    (h : exec c s = .next t) : t.grid.swapArmed = s.grid.swapArmed := by
  cases c
  case gridWindow tag p =>
    obtain hg | ⟨l, rfl⟩ := exec_request_cases rfl hb h
    · rw [hg]
    · exact gridWindowRequest_swapArmed tag p _
  case gridWrite tag p =>
    obtain hg | ⟨l, rfl⟩ := exec_request_cases rfl hb h
    · rw [hg]
    · exact gridWriteRequest_swapArmed tag p _
  case gridRead tag p =>
    obtain hg | ⟨l, rfl⟩ := exec_request_cases rfl hb h
    · rw [hg]
    · exact gridReadRequest_swapArmed tag p _
  all_goals cases hc

theorem exec_setTime_grid_cases {tag : Byte} {p : List Byte} {s t : State}
    (hb : (Instr.setTime tag p).bytewise s = false) (h : exec (.setTime tag p) s = .next t) :
    t.grid = s.grid ∨ s.clock.valid = true ∧ t.grid = s.grid.swap := by
  obtain hg | ⟨l, rfl⟩ := exec_request_cases rfl hb h
  · exact .inl hg
  · exact (setTimeRequest_grid tag p _).imp_right fun hs => ⟨(crosses_iff.mp hs.1).1, hs.2⟩

/-- What the other commands can do to the grid, short of a reset: nothing, an armed swap at a boundary, or arming it. -/
theorem exec_grid_cases {c : Instr} {s t : State} (hc : movesCursor c = false) (hr : c.resets s = false)
    (hb : c.bytewise s = false) (h : exec c s = .next t) :
    t.grid = s.grid ∨
      ((∃ tag p, c = .setTime tag p) ∨ c = .slotBoundary) ∧ t.grid = s.grid.swap ∨
      t.grid = { s.grid with swapArmed := true } := by
  cases hg : c.setsGrid with
  | false => exact .inl (exec_grid hg hr hb h)
  | true =>
    cases c
    case gridWindow | gridWrite | gridRead => cases hc
    case setTime tag p =>
      exact (exec_setTime_grid_cases hb h).imp_right fun hs => .inl ⟨.inl ⟨tag, p, rfl⟩, hs.2⟩
    case slotBoundary =>
      have hs := exec_slotBoundary_grid h
      split at hs
      · exact .inr (.inl ⟨.inr rfl, hs⟩)
      · exact .inl hs
    case gridSwap tag p =>
      obtain hg | ⟨l, rfl⟩ := exec_request_cases rfl hb h
      · exact .inl hg
      · exact (gridSwapRequest_grid tag p _).imp_right .inr
    all_goals cases hg

/-- An armed swap stays armed unless a SET_TIME or a slot boundary applies it (R109, R110). -/
theorem exec_armed {c : Instr} {s t : State} (ha : s.grid.swapArmed = true) (hr : c.resets s = false)
    (hb : c.bytewise s = false) (h : exec c s = .next t) :
    t.grid.swapArmed = true ∨ ((∃ tag p, c = .setTime tag p) ∨ c = .slotBoundary) ∧ t.grid = s.grid.swap := by
  cases hc : movesCursor c with
  | true => exact .inl ((exec_movesCursor_swapArmed hc hb h).trans ha)
  | false =>
    obtain hg | hs | hg := exec_grid_cases hc hr hb h
    · exact .inl (by rw [hg, ha])
    · exact .inr hs
    · exact .inl (by rw [hg])

theorem swap_cursor (g : Grid) : g.swap.curZone = g.curZone ∧ g.swap.curSlot = g.curSlot := by
  unfold Grid.swap
  split <;> exact ⟨rfl, rfl⟩

theorem swap_armed {g : Grid} (h : g.swapArmed = true) : g.swap = { g with active := g.staging, swapArmed := false } :=
  if_pos h

/-! ## GRID_WINDOW (R105) -/

theorem gridOrderOf_eq {n : Nat} (h : n ≤ 1) :
    gridOrderOf n = some (if n = 0 then GridOrder.acrossSlots else GridOrder.acrossZones) := by
  match n, h with
  | 0, _ => rfl
  | 1, _ => rfl

theorem gridOrderOf_of_lt {n : Nat} (h : 1 < n) : gridOrderOf n = none := by
  unfold gridOrderOf
  split
  · omega
  · omega
  · rfl

/-- The window that a request's five fields set, and its cursor (R105). -/
theorem windowed_of_good {zs ze ss se o : Byte} (g : Grid) (h1 : 1 ≤ zs.toNat) (h2 : zs.toNat ≤ ze.toNat)
    (h3 : ze.toNat ≤ 48) (h4 : ss.toNat ≤ se.toNat) (h5 : se.toNat ≤ 47) (h6 : o.toNat ≤ 1) :
    g.windowed [zs, ze, ss, se, o] =
      some { g with zoneStart := zs.toNat, zoneEnd := ze.toNat, slotStart := ss.toNat, slotEnd := se.toNat,
                    order := if o.toNat = 0 then .acrossSlots else .acrossZones,
                    curZone := zs.toNat, curSlot := ss.toNat } := by
  unfold Grid.windowed
  have ho : gridOrderOf (byteAt [zs, ze, ss, se, o] 4) = _ := gridOrderOf_eq h6
  rw [ho]
  exact if_pos (by simp [byteAt, h1, h2, h3, h4, h5])

theorem windowed_of_bad {zs ze ss se o : Byte} (g : Grid)
    (h : ¬ (1 ≤ zs.toNat ∧ zs.toNat ≤ ze.toNat ∧ ze.toNat ≤ 48 ∧ ss.toNat ≤ se.toNat ∧ se.toNat ≤ 47 ∧ o.toNat ≤ 1)) :
    g.windowed [zs, ze, ss, se, o] = none := by
  unfold Grid.windowed
  by_cases ho : o.toNat ≤ 1
  · have hof : gridOrderOf (byteAt [zs, ze, ss, se, o] 4) = _ := gridOrderOf_eq ho
    rw [hof]
    refine if_neg fun hb => h ?_
    simp only [Bool.and_eq_true, decide_eq_true_eq] at hb
    obtain ⟨⟨⟨⟨h1, h2⟩, h3⟩, h4⟩, h5⟩ := hb
    exact ⟨h1, h2, h3, h4, h5, ho⟩
  · have hof : gridOrderOf (byteAt [zs, ze, ss, se, o] 4) = none := gridOrderOf_of_lt (Nat.lt_of_not_le ho)
    rw [hof]
    rfl

theorem exec_gridWindow_of_some {p : List Byte} {s : State} {g : Grid} (tag : Byte) (ht : s.Takes p)
    (hlen : p.length = 5) (hw : s.grid.windowed p = some g) :
    exec (.gridWindow tag p) s =
      .next { s with grid := g, link := s.link.queueReply (replyFrame 0x12#8 tag .ok (u16 g.cells)) } := by
  have htaken : s.takeFrame 0x12#8 tag p (State.gridWindowRequest tag p) = _ :=
    takeFrame_frameTaken 0x12#8 tag _ ht (decide_eq_true hlen)
  rw [exec, execGridWindow, htaken, hw]
  rfl

theorem exec_gridWindow_of_none {p : List Byte} {s : State} (tag : Byte) (ht : s.Takes p)
    (hlen : p.length = 5) (hw : s.grid.windowed p = none) :
    RefusedWith (.gridWindow tag p) 0x12#8 tag .badField s := by
  have htaken : s.takeFrame 0x12#8 tag p (State.gridWindowRequest tag p) = _ :=
    takeFrame_frameTaken 0x12#8 tag _ ht (decide_eq_true hlen)
  rw [RefusedWith, exec, execGridWindow, htaken, hw]
  rfl

/-- Settles O20: the tests are those of `Grid.windowed`, and a window of at most 48 zones and 48 slots has at most 2304
cells. -/
theorem gridWindowSetsTheWindow : Obligations.GridWindowSetsTheWindow := by
  intro zs ze ss se o tag s ht good cells order
  refine ⟨fun hbad => exec_gridWindow_of_none tag ht rfl (windowed_of_bad s.grid hbad), ?_⟩
  rintro ⟨h1, h2, h3, h4, h5, h6⟩
  refine ⟨?_, ?_, exec_gridWindow_of_some tag ht rfl (windowed_of_good s.grid h1 h2 h3 h4 h5 h6)⟩
  · exact Nat.mul_pos (Nat.succ_pos _) (Nat.succ_pos _)
  · calc cells ≤ 48 * 48 := Nat.mul_le_mul (by omega) (by omega)
      _ = 2304 := rfl

/-! ## GRID_READ (R108) -/

theorem bankOf_of_le (g : Grid) {n : Nat} (h : n ≤ 1) :
    g.bankOf n = some (if n = 0 then g.active else g.staging) := by
  match n, h with
  | 0, _ => rfl
  | 1, _ => rfl

theorem bankOf_of_lt (g : Grid) {n : Nat} (h : 1 < n) : g.bankOf n = none := by
  unfold Grid.bankOf
  split
  · omega
  · omega
  · rfl

/-- A GRID_READ that names a bank and a count in range (R108). -/
theorem exec_gridRead_of_some {tag bank n : Byte} {b : Bank} {s : State} (ht : s.Takes [bank, n])
    (hbank : s.grid.bankOf bank.toNat = some b) (hn : 1 ≤ n.toNat ∧ n.toNat ≤ 96) :
    exec (.gridRead tag [bank, n]) s =
      .next { s with
        grid := (s.grid.read b n.toNat).2,
        link := s.link.queueReply (replyFrame 0x14#8 tag .ok
          ([u8 (s.grid.read b n.toNat).2.curZone, u8 (s.grid.read b n.toNat).2.curSlot] ++
            (s.grid.read b n.toNat).1.map flagByte)) } := by
  have htaken : s.takeFrame 0x14#8 tag [bank, n] (State.gridReadRequest tag [bank, n]) = _ :=
    takeFrame_frameTaken 0x14#8 tag _ ht rfl
  have hbyte : s.grid.bankOf (byteAt [bank, n] 0) = some b := hbank
  rw [exec, execGridRead, htaken, hbyte]
  exact congrArg _ (if_pos (by simpa [byteAt] using hn))

/-- A GRID_READ that names no bank or a count out of range (R108). -/
theorem exec_gridRead_refused {tag bank n : Byte} {s : State} (ht : s.Takes [bank, n])
    (hbad : s.grid.bankOf bank.toNat = none ∨ ¬ (1 ≤ n.toNat ∧ n.toNat ≤ 96)) :
    RefusedWith (.gridRead tag [bank, n]) 0x14#8 tag .badField s := by
  have htaken : s.takeFrame 0x14#8 tag [bank, n] (State.gridReadRequest tag [bank, n]) = _ :=
    takeFrame_frameTaken 0x14#8 tag _ ht rfl
  rw [RefusedWith, exec, execGridRead, htaken]
  cases hbank : s.grid.bankOf (byteAt [bank, n] 0) with
  | none => rfl
  | some b =>
    have hn : ¬ (1 ≤ n.toNat ∧ n.toNat ≤ 96) :=
      hbad.resolve_left fun h => Option.some_ne_none b (hbank.symm.trans h)
    exact congrArg _ (if_neg (by simpa [byteAt] using hn))

/-- Settles O23: the cells that `Grid.read` takes are those under the cursor as it steps (`read_eq`). -/
theorem gridReadTakesCellsFromTheCursor : Obligations.GridReadTakesCellsFromTheCursor := by
  intro tag bank n s ht good b cur after
  constructor
  · intro hbad
    by_cases hbank : bank.toNat ≤ 1
    · exact exec_gridRead_refused ht (.inr fun hn => hbad ⟨hbank, hn⟩)
    · exact exec_gridRead_refused ht (.inl (bankOf_of_lt s.grid (Nat.lt_of_not_le hbank)))
  · rintro ⟨hbank, hn⟩
    have hafter : after = { s.grid with curZone := after.curZone, curSlot := after.curSlot } :=
      onlyCursor_repeat_step n.toNat s.grid
    rw [exec_gridRead_of_some ht (bankOf_of_le s.grid hbank) hn, read_eq, List.map_map, ← hafter]
    rfl

/-! ## GRID_SWAP (R109) -/

theorem exec_gridSwap {tag : Byte} {s : State} (ht : s.Takes []) :
    exec (.gridSwap tag []) s =
      .next { s with grid := { s.grid with swapArmed := true },
                     link := s.link.queueReply (replyFrame 0x15#8 tag .ok [flagByte s.grid.swapArmed]) } := by
  have htaken : s.takeFrame 0x15#8 tag [] (State.gridSwapRequest tag []) = _ :=
    takeFrame_frameTaken 0x15#8 tag _ ht rfl
  rw [exec, execGridSwap, htaken]
  rfl

/-- Settles O24: `exec_armed` says how an armed swap can end, and each of the clauses is one of its cases. -/
theorem gridSwapArmsUntilABoundary : Obligations.GridSwapArmsUntilABoundary := by
  refine ⟨fun tag s ht => exec_gridSwap ht, fun c s t hb h ha => ⟨?_, ?_, ?_, ?_, ?_, ?_⟩⟩
  · intro hr
    rw [exec_reset_grid hr h]
    rfl
  · intro hr hslot hset
    obtain hkept | ⟨⟨tag, p, hc⟩ | hc, -⟩ := exec_armed ha hr hb h
    · exact hkept
    · exact absurd hc (hset tag p)
    · exact absurd hc hslot
  · rintro ⟨tag, p, rfl⟩ hunset
    obtain hg | ⟨hvalid, -⟩ := exec_setTime_grid_cases hb h
    · rw [hg, ha]
    · rw [hunset] at hvalid
      cases hvalid
  · rintro rfl hvalid hminute hsecond
    rw [exec_slotBoundary_grid h, if_pos (atBoundary_iff.mpr ⟨hvalid, hminute, hsecond⟩), swap_armed ha]
  · rintro tag b0 b1 b2 b3 rfl ht hvalid hminute hslot
    rw [exec_setTime_grid ht hminute h, if_pos (crosses_iff.mpr ⟨hvalid, hslot⟩), swap_armed ha]
  · intro hdisarmed hr
    obtain hkept | ⟨-, hg⟩ := exec_armed ha hr hb h
    · rw [hkept] at hdisarmed
      cases hdisarmed
    · rw [hg, swap_armed ha]
      exact ⟨rfl, rfl⟩

/-! ## The cursor and the commands (R106) -/

theorem cellValues_of_good {p : List Byte} (h1 : 1 ≤ p.length) (h96 : p.length ≤ 96) (hp : ∀ b ∈ p, b.toNat ≤ 1) :
    cellValues p = some (p.map fun b => decide (b.toNat = 1)) :=
  if_pos (by simpa [h1, h96] using hp)

/-- An accepted GRID_WRITE writes its cells (R107). -/
theorem exec_gridWrite_grid {tag : Byte} {p : List Byte} {s t : State} {values : List Bool} (ht : s.Takes p)
    (ha : s.grid.swapArmed = false) (hv : cellValues p = some values) (h : exec (.gridWrite tag p) s = .next t) :
    t.grid = s.grid.write values := by
  have htaken : s.takeFrame 0x13#8 tag p (State.gridWriteRequest tag p) = _ :=
    takeFrame_frameTaken 0x13#8 tag _ ht rfl
  rw [exec, execGridWrite, htaken, hv] at h
  simp only [ha, Bool.false_eq_true, if_false] at h
  cases h
  rfl

/-- Short of a reset, only GRID_WINDOW, GRID_WRITE and GRID_READ move the cursor (R106). -/
theorem exec_cursor {c : Instr} {s t : State} (hc : movesCursor c = false) (hr : c.resets s = false)
    (hb : c.bytewise s = false) (h : exec c s = .next t) :
    t.grid.curZone = s.grid.curZone ∧ t.grid.curSlot = s.grid.curSlot := by
  obtain hg | ⟨-, hg⟩ | hg := exec_grid_cases hc hr hb h
  · rw [hg]
    exact ⟨rfl, rfl⟩
  · rw [hg]
    exact swap_cursor s.grid
  · rw [hg]
    exact ⟨rfl, rfl⟩

theorem movesCursor_eq_false {c : Instr}
    (h : ∀ tag p, c ≠ .gridWindow tag p ∧ c ≠ .gridWrite tag p ∧ c ≠ .gridRead tag p) : movesCursor c = false := by
  unfold movesCursor
  split
  · exact absurd rfl (h _ _).1
  · exact absurd rfl (h _ _).2.1
  · exact absurd rfl (h _ _).2.2
  · rfl

/-- Settles O21: the requests of the window and of the cells by their equations, every other command by
`exec_cursor`. -/
theorem cursorStepsThroughTheWindow : Obligations.CursorStepsThroughTheWindow := by
  refine ⟨fun _ => step_acrossSlots, fun _ => step_acrossZones, fun _ => cursorOk_step, ?_, ?_, ?_, ?_⟩
  · intro tag p s t ht ha h1 h96 hp h
    rw [exec_gridWrite_grid ht ha (cellValues_of_good h1 h96 hp) h]
    simpa using write_cursor (p.map fun b => decide (b.toNat = 1)) s.grid
  · intro tag bank n s t ht hbank h1 h96 h
    have hread := (gridReadTakesCellsFromTheCursor tag bank n s ht).2 ⟨hbank, h1, h96⟩
    rw [hread] at h
    cases h
    exact ⟨rfl, rfl⟩
  · intro zs ze ss se o tag s t ht h
    obtain ⟨hbad, hgood⟩ := gridWindowSetsTheWindow zs ze ss se o tag s ht
    by_cases hg : 1 ≤ zs.toNat ∧ zs.toNat ≤ ze.toNat ∧ ze.toNat ≤ 48 ∧ ss.toNat ≤ se.toNat ∧ se.toNat ≤ 47 ∧ o.toNat ≤ 1
    · rw [(hgood hg).2.2] at h
      cases h
      exact .inl ⟨rfl, rfl⟩
    · rw [hbad hg] at h
      cases h
      exact .inr ⟨rfl, rfl⟩
  · intro c s t hc hb h
    refine ⟨fun hr => exec_cursor (movesCursor_eq_false hc) hr hb h, fun hr => ?_⟩
    rw [exec_reset_grid hr h]
    exact ⟨rfl, rfl⟩

end Sys2Proof.Machine
end

