-- ==== Sys2Proof/Proofs/HostLink.lean ====
section
/-!
PROOF. The general requests of the host link: what IDENT and STATUS answer (R181), and the notice filter, from the request
that sets it to the resets and breaks that clear it (R178, R180, R182, R183).
-/

-- One theorem at a time, which keeps the number of Lean's threads small.
set_option Elab.async false
namespace Sys2Proof.Machine

/-! ## IDENT and STATUS (R181) -/

/-- A request of no field whose owner only answers does nothing else when it is taken (R175). -/
theorem takeFrame_answer (kind tag : Byte) (result : State → List Byte) {s : State} (h : s.Takes []) :
    s.takeFrame kind tag [] (State.frameTaken kind tag true fun s => s.answer kind tag (result s)) =
      s.replied kind tag .ok (result s) :=
  takeFrame_frameTaken kind tag (fun s => s.answer kind tag (result s)) h rfl

theorem ident_onlyAnswers (tag : Byte) {s : State} (h : s.Takes []) :
    OnlyAnswers (.ident tag []) 0x01#8 tag identBytes s :=
  congrArg _ (takeFrame_answer 0x01#8 tag (fun _ => identBytes) h)

theorem status_onlyAnswers (tag : Byte) {s : State} (h : s.Takes []) :
    OnlyAnswers (.status tag []) 0x02#8 tag s.statusBytes s :=
  congrArg _ (takeFrame_answer 0x02#8 tag State.statusBytes h)

theorem recentOvercurrents_length (s : State) :
    s.recentOvercurrents.length = s.line.overcurrents.countP fun x => s.clock.uptime ≤ x + 600 :=
  List.countP_eq_length_filter.symm

/-- Settles O11: both requests only answer, and the bytes of the statement are the model's layouts with its counts written
out. -/
theorem identAndStatusOnlyAnswer : Obligations.IdentAndStatusOnlyAnswer := by
  intro tag s htakes
  refine ⟨ident_onlyAnswers tag htakes, ?_⟩
  have hstatus := status_onlyAnswers tag htakes
  simpa only [State.statusBytes, recentOvercurrents_length, State.countRuns, State.countDevices, State.devices,
    HoldUnit.activeCode, List.cons_append, List.nil_append, decide_not] using hstatus

/-! ## What a queued reply leaves alone (R174, R179) -/

@[simp] theorem moveSlot_notices (i : Nat) (l : Link) : (l.moveSlot i).notices = l.notices := by
  unfold Link.moveSlot
  split <;> rfl

theorem fillFrom_notices (is : List Nat) (l : Link) : (Link.fillFrom is l).notices = l.notices := by
  induction is generalizing l with
  | nil => rfl
  | cons i rest ih =>
    unfold Link.fillFrom
    split
    · rw [ih, moveSlot_notices]
    · rfl

/-- A transmitter with a reply to send takes no notice. -/
theorem pump_notices_of_replies {l : Link} (h : l.replies ≠ []) : l.pump.notices = l.notices := by
  unfold Link.pump
  cases l.tx with
  | some f => rfl
  | none =>
    cases hr : l.replies with
    | nil => exact absurd hr h
    | cons f rest => exact fillFrom_notices _ _

@[simp] theorem queueReply_notices (f : HostFrame) (l : Link) : (l.queueReply f).notices = l.notices := by
  rw [Link.queueReply, pump_notices_of_replies (by simp)]

theorem filter_eq_of_setup {l m : Link} (h : l.setup = m.setup) : l.filter = m.filter := by
  simp only [Link.setup, Prod.mk.injEq] at h
  obtain ⟨-, -, -, -, hfilter, -, -⟩ := h
  exact hfilter

@[simp] theorem queueReply_filter (f : HostFrame) (l : Link) : (l.queueReply f).filter = l.filter :=
  filter_eq_of_setup (setup_queueReply f l)

/-! ## NOTICE_FILTER (R182) -/

theorem toNat_append_byte {w : Nat} (x : BitVec w) (b : Byte) : (x ++ b).toNat = x.toNat * 256 + b.toNat := by
  rw [BitVec.toNat_append, ← Nat.shiftLeft_add_eq_or_of_lt b.isLt, Nat.shiftLeft_eq]

/-- The number at the front of a payload is its first four bytes, high byte first (R184). -/
theorem u32At_bytes (b0 b1 b2 b3 : Byte) : u32At [b0, b1, b2, b3] 0 = b0 ++ b1 ++ b2 ++ b3 := by
  have hnumber : u16At [b0, b1, b2, b3] 0 * 65536 + u16At [b0, b1, b2, b3] 2 = (b0 ++ b1 ++ b2 ++ b3).toNat := by
    simp only [toNat_append_byte, u16At, byteAt, List.getD_cons_zero, List.getD_cons_succ]
    omega
  rw [u32At, hnumber, BitVec.ofNat_toNat, BitVec.setWidth_eq]

/-- A NOTICE_FILTER that is taken sets the mask in force and answers it (R182). -/
theorem exec_noticeFilter {p : List Byte} {s : State} (tag : Byte) (ht : s.Takes p) (hlen : p.length = 4) :
    exec (.noticeFilter tag p) s =
      .next (State.replied 0x1E#8 tag .ok (u32 (maskInForce (u32At p 0)))
        (s.mapLink fun l => { l with filter := maskInForce (u32At p 0) })) := by
  have htaken : s.takeFrame 0x1E#8 tag p (State.noticeFilterRequest tag p) = _ :=
    takeFrame_frameTaken 0x1E#8 tag _ ht (decide_eq_true hlen)
  rw [exec, execNoticeFilter, htaken]
  rfl

/-! ## The filter at a posting (R178, R182) -/

theorem passes_iff (l : Link) (n : Notice) :
    l.passes n = true ↔ n.index = 0 ∨ n.index = 13 ∨ l.filter.getLsbD n.index = true := by
  simp [Link.passes, or_assoc]

theorem post_of_not_passes {n : Notice} {l : Link} (h : l.passes n = false) : l.post n = l := by
  simp [Link.post, h]

/-! ## What lets every kind pass (R180, R182, R183) -/

theorem restart_filter (cause : ReadyCause) (sending : Option HostFrame) :
    (Link.restart cause sending).filter = 0xFFFFFFFF#32 :=
  filter_eq_of_setup (setup_pump _)

@[simp] theorem powerOn_filter (cause : ReadyCause) (sending : Option HostFrame) (s : State) :
    (s.powerOn cause sending).link.filter = 0xFFFFFFFF#32 := restart_filter cause sending

theorem filter_eq_of_frame {s t : State} (h : s.frame = t.frame) : s.link.filter = t.link.filter :=
  filter_eq_of_setup (congrArg Frame.link h)

@[simp] theorem frame_detachLink (s : State) : (s.mapSched Scheduler.detachLink).frame = s.frame :=
  frame_mapSched (List.length_map _)

/-- A break lets every kind pass, whether or not it performs a reset. -/
theorem exec_linkBreak_filter {s t : State} (hopen : s.link.inBreak = false) (h : exec .linkBreak s = .next t) :
    t.link.filter = 0xFFFFFFFF#32 := by
  rw [exec, execLinkBreak, if_neg (by simp [hopen])] at h
  cases h
  dsimp only
  split
  · exact powerOn_filter ..
  · have hkept : ∀ u : State,
        (((u.mapSched Scheduler.detachLink).dropWaits fun req => req.origin = .link).finish).frame = u.frame := by simp
    exact filter_eq_of_frame (hkept (s.mapLink Link.break))

/-- The end of the RESET ALL reply performs the power-on reset (R183). -/
theorem exec_hostFrameSent_resets {s : State} {f : HostFrame} (htx : s.link.tx = some f) (hr : f.resets = true) :
    exec .hostFrameSent s = .next (s.powerOn .command none) := by
  simp only [exec, execHostFrameSent, htx, hr, if_true]

/-- Settles O13: the request by its equation, the queued notices by what a queued reply leaves alone, and each reset and
break by the filter that it leaves. -/
theorem noticeFilterSetsTheMask : Obligations.NoticeFilterSetsTheMask := by
  refine ⟨?_, ?_, ?_, ?_, ?_⟩
  · intro b0 b1 b2 b3 tag s ht mask answer
    refine ⟨?_, fun f l => ⟨queueReply_notices f l, queueReply_filter f l⟩⟩
    rw [exec_noticeFilter tag ht rfl, u32At_bytes]
    rfl
  · exact fun n l _ => ⟨(passes_iff l n).symm, post_of_not_passes⟩
  · exact fun s => ⟨_, rfl, powerOn_filter .power none s⟩
  · exact fun s hopen => ⟨_, rfl, exec_linkBreak_filter hopen rfl⟩
  · exact fun s f htx hr => ⟨_, exec_hostFrameSent_resets htx hr, powerOn_filter .command none s⟩

end Sys2Proof.Machine
end
